-- ==== Sys2Proof/Word.lean ====
section
/-!
DEFINITION. The two widths of PXC: the register word (00_scope.md R4, "every register is 32 bits") and the byte of
the memory space (20_memory.md R40).
-/

namespace Sys2Proof

/-- A byte of the memory space (R40). -/
abbrev Byte := BitVec 8

/-- A register of the register block, and a byte address (R4, `AW = 32`). -/
abbrev Word := BitVec 32

end Sys2Proof
end

