-- ==== Sys2Proof/Syntax.lean ====
section
/-!
DEFINITION. The whole opcode table of PXC as syntax: one constructor of `Instr` per row of spec/opcode_table.json
(44 requests of format Q, 30_encoding.md R61; three commands of format C, R72).
-/

namespace Sys2Proof

/-- `DIR` (R63). -/
inductive Dir where
  | pack
  | unpack
deriving DecidableEq, Repr

/-- The 22 external layouts (R62), in the order of their tags. -/
inductive Fmt where
  | yuyv
  | uyvy
  | v210
  | yu64
  | rgb24
  | rgb32
  | rgba32
  | rgb48
  | rgba64
  | bgra64
  | rg30
  | ar10
  | ab10
  | r210
  | dpx0
  | rgb8p
  | rgba8p
  | nv12
  | yv12
  | avid28
  | avid214
  | avid106
deriving DecidableEq, Repr

/-- `PFAM`, the family of the planar side (R66). -/
inductive Family where
  | yuv422
  | yuv444
  | rgb
  | rgba
deriving DecidableEq, Repr

/-- The operands a request word carries beside `DIR` and `FMT` (R61): `CS` (R64), `UPS`, `C709`, `VFLIP` (R65),
`PFAM` (R66), `PDEPTH`, `PSIGNED` (R67), `ACOMP` (R68). -/
structure ReqFields where
  cs : BitVec 3
  ups : Bool
  c709 : Bool
  vflip : Bool
  pfam : Family
  pdepth : BitVec 3
  psigned : Bool
  acomp : Bool
deriving DecidableEq, Repr

/-- An instruction: a request of the engine (R60) or a host command (R72). A `CTRL` word may carry several commands,
done in the order SRST, CLR, START (R12): it is the instruction of the last one, with the earlier ones and the stored
bit `IE` as operands (log 13). -/
inductive Instr where
  /-- `PACK.YUYV` (R134). -/
  | packYuyv (q : ReqFields)
  /-- `PACK.UYVY` (R136). -/
  | packUyvy (q : ReqFields)
  /-- `PACK.V210` (R138). -/
  | packV210 (q : ReqFields)
  /-- `PACK.YU64` (R140). -/
  | packYu64 (q : ReqFields)
  /-- `PACK.RGB24` (R160). -/
  | packRgb24 (q : ReqFields)
  /-- `PACK.RGB32` (R162). -/
  | packRgb32 (q : ReqFields)
  /-- `PACK.RGBA32` (R164). -/
  | packRgba32 (q : ReqFields)
  /-- `PACK.RGB48` (R166). -/
  | packRgb48 (q : ReqFields)
  /-- `PACK.RGBA64` (R168). -/
  | packRgba64 (q : ReqFields)
  /-- `PACK.BGRA64` (R170). -/
  | packBgra64 (q : ReqFields)
  /-- `PACK.RG30` (R172). -/
  | packRg30 (q : ReqFields)
  /-- `PACK.AR10` (R174). -/
  | packAr10 (q : ReqFields)
  /-- `PACK.AB10` (R176). -/
  | packAb10 (q : ReqFields)
  /-- `PACK.R210` (R178). -/
  | packR210 (q : ReqFields)
  /-- `PACK.DPX0` (R180). -/
  | packDpx0 (q : ReqFields)
  /-- `PACK.RGB8P` (R182). -/
  | packRgb8p (q : ReqFields)
  /-- `PACK.RGBA8P` (R184). -/
  | packRgba8p (q : ReqFields)
  /-- `PACK.NV12` (R142). -/
  | packNv12 (q : ReqFields)
  /-- `PACK.YV12` (R144). -/
  | packYv12 (q : ReqFields)
  /-- `PACK.AVID_2_8` (R146). -/
  | packAvid28 (q : ReqFields)
  /-- `PACK.AVID_2_14` (R148). -/
  | packAvid214 (q : ReqFields)
  /-- `PACK.AVID_10_6` (R150). -/
  | packAvid106 (q : ReqFields)
  /-- `UNPACK.YUYV` (R135). -/
  | unpackYuyv (q : ReqFields)
  /-- `UNPACK.UYVY` (R137). -/
  | unpackUyvy (q : ReqFields)
  /-- `UNPACK.V210` (R139). -/
  | unpackV210 (q : ReqFields)
  /-- `UNPACK.YU64` (R141). -/
  | unpackYu64 (q : ReqFields)
  /-- `UNPACK.RGB24` (R161). -/
  | unpackRgb24 (q : ReqFields)
  /-- `UNPACK.RGB32` (R163). -/
  | unpackRgb32 (q : ReqFields)
  /-- `UNPACK.RGBA32` (R165). -/
  | unpackRgba32 (q : ReqFields)
  /-- `UNPACK.RGB48` (R167). -/
  | unpackRgb48 (q : ReqFields)
  /-- `UNPACK.RGBA64` (R169). -/
  | unpackRgba64 (q : ReqFields)
  /-- `UNPACK.BGRA64` (R171). -/
  | unpackBgra64 (q : ReqFields)
  /-- `UNPACK.RG30` (R173). -/
  | unpackRg30 (q : ReqFields)
  /-- `UNPACK.AR10` (R175). -/
  | unpackAr10 (q : ReqFields)
  /-- `UNPACK.AB10` (R177). -/
  | unpackAb10 (q : ReqFields)
  /-- `UNPACK.R210` (R179). -/
  | unpackR210 (q : ReqFields)
  /-- `UNPACK.DPX0` (R181). -/
  | unpackDpx0 (q : ReqFields)
  /-- `UNPACK.RGB8P` (R183). -/
  | unpackRgb8p (q : ReqFields)
  /-- `UNPACK.RGBA8P` (R185). -/
  | unpackRgba8p (q : ReqFields)
  /-- `UNPACK.NV12` (R143). -/
  | unpackNv12 (q : ReqFields)
  /-- `UNPACK.YV12` (R145). -/
  | unpackYv12 (q : ReqFields)
  /-- `UNPACK.AVID_2_8` (R147). -/
  | unpackAvid28 (q : ReqFields)
  /-- `UNPACK.AVID_2_14` (R149). -/
  | unpackAvid214 (q : ReqFields)
  /-- `UNPACK.AVID_10_6` (R151). -/
  | unpackAvid106 (q : ReqFields)
  /-- `START` (R190). -/
  | start (withSrst withClr ie : Bool)
  /-- `CLR` without `START` (R218). -/
  | clr (withSrst ie : Bool)
  /-- `SRST` alone (R231). -/
  | srst (ie : Bool)
deriving DecidableEq, Repr

end Sys2Proof
end

