-- ==== Sys2Proof/WellFormed.lean ====
section
/-!
DEFINITION. Which instructions are well formed: the checks 30_encoding.md R69 makes on the fields of a request word
alone. The checks on the operand registers (plane tags, geometry) are `validate`'s.
-/

namespace Sys2Proof

/-- `CS` names exactly one standard (R64). -/
def ReqFields.csLegal (q : ReqFields) : Bool :=
  q.cs = 1#3 || q.cs = 2#3 || q.cs = 5#3 || q.cs = 6#3

/-- `PDEPTH` is one of the five depths (R67). -/
def ReqFields.depthLegal (q : ReqFields) : Bool := q.pdepth.toNat < 5

/-- `PSIGNED` only with 12 or 13 bits (R67). -/
def ReqFields.signLegal (q : ReqFields) : Bool :=
  !q.psigned || q.pdepth = 2#3 || q.pdepth = 3#3

/-- All checks of R69 on the fields of the word. -/
def ReqFields.legal (q : ReqFields) : Bool := q.csLegal && q.depthLegal && q.signLegal

/-- An instruction whose own fields are legal. Every command is (R72: all other bits are ignored). `UNPACK.NV12` and
`UNPACK.YV12` are recognised encodings (R143, R145): their refusal is their meaning, not a defect of the word. -/
def Instr.wellFormed : Instr → Bool
  | .packYuyv q => q.legal
  | .packUyvy q => q.legal
  | .packV210 q => q.legal
  | .packYu64 q => q.legal
  | .packRgb24 q => q.legal
  | .packRgb32 q => q.legal
  | .packRgba32 q => q.legal
  | .packRgb48 q => q.legal
  | .packRgba64 q => q.legal
  | .packBgra64 q => q.legal
  | .packRg30 q => q.legal
  | .packAr10 q => q.legal
  | .packAb10 q => q.legal
  | .packR210 q => q.legal
  | .packDpx0 q => q.legal
  | .packRgb8p q => q.legal
  | .packRgba8p q => q.legal
  | .packNv12 q => q.legal
  | .packYv12 q => q.legal
  | .packAvid28 q => q.legal
  | .packAvid214 q => q.legal
  | .packAvid106 q => q.legal
  | .unpackYuyv q => q.legal
  | .unpackUyvy q => q.legal
  | .unpackV210 q => q.legal
  | .unpackYu64 q => q.legal
  | .unpackRgb24 q => q.legal
  | .unpackRgb32 q => q.legal
  | .unpackRgba32 q => q.legal
  | .unpackRgb48 q => q.legal
  | .unpackRgba64 q => q.legal
  | .unpackBgra64 q => q.legal
  | .unpackRg30 q => q.legal
  | .unpackAr10 q => q.legal
  | .unpackAb10 q => q.legal
  | .unpackR210 q => q.legal
  | .unpackDpx0 q => q.legal
  | .unpackRgb8p q => q.legal
  | .unpackRgba8p q => q.legal
  | .unpackNv12 q => q.legal
  | .unpackYv12 q => q.legal
  | .unpackAvid28 q => q.legal
  | .unpackAvid214 q => q.legal
  | .unpackAvid106 q => q.legal
  | .start _ _ _ => true
  | .clr _ _ => true
  | .srst _ => true

end Sys2Proof
end

