-- ==== Sys2Proof/Decode.lean ====
section
/-!
DEFINITION. Decoding and encoding of the two instruction spaces of PXC: the request word `REQ_OP` (30_encoding.md R61,
R62) and the command word written to `CTRL` (R72). Both decoders are total on 32-bit words and refuse with `none`.
-/

namespace Sys2Proof

/-- `v[hi:lo]` of R7, with `len = hi - lo + 1`. -/
def slice (w : Word) (lo len : Nat) : Nat := w.toNat / 2 ^ lo % 2 ^ len

/-- `v[i]` of R7. -/
def bitAt (w : Word) (i : Nat) : Bool := slice w i 1 = 1

/-- A flag as the bit it occupies. -/
def bitVal (b : Bool) : Nat := if b then 1 else 0

/-- The tag of a layout (R62). -/
def Fmt.tag : Fmt → Nat
  | .yuyv => 1
  | .uyvy => 2
  | .v210 => 3
  | .yu64 => 4
  | .rgb24 => 5
  | .rgb32 => 6
  | .rgba32 => 7
  | .rgb48 => 8
  | .rgba64 => 9
  | .bgra64 => 10
  | .rg30 => 11
  | .ar10 => 12
  | .ab10 => 13
  | .r210 => 14
  | .dpx0 => 15
  | .rgb8p => 16
  | .rgba8p => 17
  | .nv12 => 18
  | .yv12 => 19
  | .avid28 => 20
  | .avid214 => 21
  | .avid106 => 22

/-- The layout of a tag: 0 and 23 to 63 are reserved (R62). -/
def Fmt.ofTag : Nat → Option Fmt
  | 1 => some .yuyv
  | 2 => some .uyvy
  | 3 => some .v210
  | 4 => some .yu64
  | 5 => some .rgb24
  | 6 => some .rgb32
  | 7 => some .rgba32
  | 8 => some .rgb48
  | 9 => some .rgba64
  | 10 => some .bgra64
  | 11 => some .rg30
  | 12 => some .ar10
  | 13 => some .ab10
  | 14 => some .r210
  | 15 => some .dpx0
  | 16 => some .rgb8p
  | 17 => some .rgba8p
  | 18 => some .nv12
  | 19 => some .yv12
  | 20 => some .avid28
  | 21 => some .avid214
  | 22 => some .avid106
  | _ => none

/-- `DIR` as a bit (R63). -/
def Dir.bit : Dir → Nat
  | .pack => 0
  | .unpack => 1

/-- `PFAM` as a code (R66). -/
def Family.code : Family → Nat
  | .yuv422 => 0
  | .yuv444 => 1
  | .rgb => 2
  | .rgba => 3

/-- The family of a `PFAM` code (R66: all four values are legal). -/
def Family.ofCode : Nat → Family
  | 0 => .yuv422
  | 1 => .yuv444
  | 2 => .rgb
  | _ => .rgba

/-- The operand fields of a request word (R61). -/
def reqFields (w : Word) : ReqFields where
  cs := BitVec.ofNat 3 (slice w 8 3)
  ups := bitAt w 11
  c709 := bitAt w 12
  vflip := bitAt w 13
  pfam := Family.ofCode (slice w 14 2)
  pdepth := BitVec.ofNat 3 (slice w 16 3)
  psigned := bitAt w 19
  acomp := bitAt w 20

/-- `DIR` of a request word (R61). -/
def reqDir (w : Word) : Dir := if bitAt w 7 then .unpack else .pack

/-- The reserved bits of a request word are zero (R69). -/
def reqReservedZero (w : Word) : Bool := !bitAt w 6 && slice w 21 11 = 0

/-- What a request word names, where its reserved bits are zero and its tag is defined (R61, R69). -/
def reqView (w : Word) : Option (Dir × Fmt × ReqFields) :=
  if reqReservedZero w then
    (Fmt.ofTag (slice w 0 6)).map fun f => (reqDir w, f, reqFields w)
  else none

/-- The request word of a direction, a layout and operand fields (R61). -/
def reqWord (d : Dir) (f : Fmt) (q : ReqFields) : Word :=
  BitVec.ofNat 32 (f.tag + 2 ^ 7 * d.bit + 2 ^ 8 * q.cs.toNat + 2 ^ 11 * bitVal q.ups + 2 ^ 12 * bitVal q.c709
    + 2 ^ 13 * bitVal q.vflip + 2 ^ 14 * q.pfam.code + 2 ^ 16 * q.pdepth.toNat + 2 ^ 19 * bitVal q.psigned
    + 2 ^ 20 * bitVal q.acomp)

/-- The opcode-table row that `DIR` and `FMT` select (R61, R200). -/
def reqInstr (q : ReqFields) : Dir → Fmt → Instr
  | .pack, .yuyv => .packYuyv q
  | .pack, .uyvy => .packUyvy q
  | .pack, .v210 => .packV210 q
  | .pack, .yu64 => .packYu64 q
  | .pack, .rgb24 => .packRgb24 q
  | .pack, .rgb32 => .packRgb32 q
  | .pack, .rgba32 => .packRgba32 q
  | .pack, .rgb48 => .packRgb48 q
  | .pack, .rgba64 => .packRgba64 q
  | .pack, .bgra64 => .packBgra64 q
  | .pack, .rg30 => .packRg30 q
  | .pack, .ar10 => .packAr10 q
  | .pack, .ab10 => .packAb10 q
  | .pack, .r210 => .packR210 q
  | .pack, .dpx0 => .packDpx0 q
  | .pack, .rgb8p => .packRgb8p q
  | .pack, .rgba8p => .packRgba8p q
  | .pack, .nv12 => .packNv12 q
  | .pack, .yv12 => .packYv12 q
  | .pack, .avid28 => .packAvid28 q
  | .pack, .avid214 => .packAvid214 q
  | .pack, .avid106 => .packAvid106 q
  | .unpack, .yuyv => .unpackYuyv q
  | .unpack, .uyvy => .unpackUyvy q
  | .unpack, .v210 => .unpackV210 q
  | .unpack, .yu64 => .unpackYu64 q
  | .unpack, .rgb24 => .unpackRgb24 q
  | .unpack, .rgb32 => .unpackRgb32 q
  | .unpack, .rgba32 => .unpackRgba32 q
  | .unpack, .rgb48 => .unpackRgb48 q
  | .unpack, .rgba64 => .unpackRgba64 q
  | .unpack, .bgra64 => .unpackBgra64 q
  | .unpack, .rg30 => .unpackRg30 q
  | .unpack, .ar10 => .unpackAr10 q
  | .unpack, .ab10 => .unpackAb10 q
  | .unpack, .r210 => .unpackR210 q
  | .unpack, .dpx0 => .unpackDpx0 q
  | .unpack, .rgb8p => .unpackRgb8p q
  | .unpack, .rgba8p => .unpackRgba8p q
  | .unpack, .nv12 => .unpackNv12 q
  | .unpack, .yv12 => .unpackYv12 q
  | .unpack, .avid28 => .unpackAvid28 q
  | .unpack, .avid214 => .unpackAvid214 q
  | .unpack, .avid106 => .unpackAvid106 q

/-- The two instruction spaces: the request word held in `REQ_OP` and the word written to `CTRL`. -/
inductive Space where
  | request
  | command
deriving DecidableEq, Repr

/-- The request a word of format Q names (R61). -/
def decodeRequest (w : Word) : Option Instr := (reqView w).map fun v => reqInstr v.2.2 v.1 v.2.1

/-- The command a word of format C carries (R72); a word with none of bits 2:0 set carries none. -/
def decodeCommand (w : Word) : Option Instr :=
  if bitAt w 0 then some (.start (bitAt w 2) (bitAt w 1) (bitAt w 8))
  else if bitAt w 1 then some (.clr (bitAt w 2) (bitAt w 8))
  else if bitAt w 2 then some (.srst (bitAt w 8))
  else none

/-- The decoder, by instruction space. -/
def decode : Space → Word → Option Instr
  | .request, w => decodeRequest w
  | .command, w => decodeCommand w

/-- The command word of its parts (R72); reserved bits are written 0. -/
def commandWord (start clr srst ie : Bool) : Word :=
  BitVec.ofNat 32 (bitVal start + 2 * bitVal clr + 4 * bitVal srst + 2 ^ 8 * bitVal ie)

/-- The encoder: the space an instruction belongs to and its word (R61, R72). -/
def encode : Instr → Space × Word
  | .packYuyv q => (.request, reqWord .pack .yuyv q)
  | .packUyvy q => (.request, reqWord .pack .uyvy q)
  | .packV210 q => (.request, reqWord .pack .v210 q)
  | .packYu64 q => (.request, reqWord .pack .yu64 q)
  | .packRgb24 q => (.request, reqWord .pack .rgb24 q)
  | .packRgb32 q => (.request, reqWord .pack .rgb32 q)
  | .packRgba32 q => (.request, reqWord .pack .rgba32 q)
  | .packRgb48 q => (.request, reqWord .pack .rgb48 q)
  | .packRgba64 q => (.request, reqWord .pack .rgba64 q)
  | .packBgra64 q => (.request, reqWord .pack .bgra64 q)
  | .packRg30 q => (.request, reqWord .pack .rg30 q)
  | .packAr10 q => (.request, reqWord .pack .ar10 q)
  | .packAb10 q => (.request, reqWord .pack .ab10 q)
  | .packR210 q => (.request, reqWord .pack .r210 q)
  | .packDpx0 q => (.request, reqWord .pack .dpx0 q)
  | .packRgb8p q => (.request, reqWord .pack .rgb8p q)
  | .packRgba8p q => (.request, reqWord .pack .rgba8p q)
  | .packNv12 q => (.request, reqWord .pack .nv12 q)
  | .packYv12 q => (.request, reqWord .pack .yv12 q)
  | .packAvid28 q => (.request, reqWord .pack .avid28 q)
  | .packAvid214 q => (.request, reqWord .pack .avid214 q)
  | .packAvid106 q => (.request, reqWord .pack .avid106 q)
  | .unpackYuyv q => (.request, reqWord .unpack .yuyv q)
  | .unpackUyvy q => (.request, reqWord .unpack .uyvy q)
  | .unpackV210 q => (.request, reqWord .unpack .v210 q)
  | .unpackYu64 q => (.request, reqWord .unpack .yu64 q)
  | .unpackRgb24 q => (.request, reqWord .unpack .rgb24 q)
  | .unpackRgb32 q => (.request, reqWord .unpack .rgb32 q)
  | .unpackRgba32 q => (.request, reqWord .unpack .rgba32 q)
  | .unpackRgb48 q => (.request, reqWord .unpack .rgb48 q)
  | .unpackRgba64 q => (.request, reqWord .unpack .rgba64 q)
  | .unpackBgra64 q => (.request, reqWord .unpack .bgra64 q)
  | .unpackRg30 q => (.request, reqWord .unpack .rg30 q)
  | .unpackAr10 q => (.request, reqWord .unpack .ar10 q)
  | .unpackAb10 q => (.request, reqWord .unpack .ab10 q)
  | .unpackR210 q => (.request, reqWord .unpack .r210 q)
  | .unpackDpx0 q => (.request, reqWord .unpack .dpx0 q)
  | .unpackRgb8p q => (.request, reqWord .unpack .rgb8p q)
  | .unpackRgba8p q => (.request, reqWord .unpack .rgba8p q)
  | .unpackNv12 q => (.request, reqWord .unpack .nv12 q)
  | .unpackYv12 q => (.request, reqWord .unpack .yv12 q)
  | .unpackAvid28 q => (.request, reqWord .unpack .avid28 q)
  | .unpackAvid214 q => (.request, reqWord .unpack .avid214 q)
  | .unpackAvid106 q => (.request, reqWord .unpack .avid106 q)
  | .start withSrst withClr ie => (.command, commandWord true withClr withSrst ie)
  | .clr withSrst ie => (.command, commandWord false true withSrst ie)
  | .srst ie => (.command, commandWord false false true ie)

/-- The instruction this decoder reads from a table word `w` of `nbits` bits. The command rows fix bits 0, 1 and 2
only, so the table gives them fewer than 32 bits; the request rows fix bits up to 31 (log 12). -/
def decodeTableWord (nbits w : Nat) : Option Instr :=
  if nbits < 32 then decode .command (BitVec.ofNat 32 w)
  else if w < 2 ^ 32 then decode .request (BitVec.ofNat 32 w)
  else none

end Sys2Proof
end

