-- ==== Sys2Proof/Config.lean ====
section
/-!
DEFINITION. The free values of the model: constants with no body, applied to the counter `State.freeCtr`, so that no
proof can know one of them and a claim holds for every choice (93_implementation_defined.md U1, U2, U6, U7, U8).
The parameters of 00_scope.md R4 that are data (CMT, ACT, REG_BASE, the backed addresses) are fields of State instead.
-/

namespace Sys2Proof.Config

/-- The free dither source of mode `FREE` (R112, U2; log 8): the raw value of the `k`-th draw, which `draw` brings into
the range of its call site. -/
opaque ditherSrc (k : Nat) : Nat

/-- A byte whose contents the spec leaves unspecified (R52 item 5, R54, R230; U1, U7, U8, U14; log 9). -/
opaque freeByte (k : Nat) : Byte

/-- Whether one byte of the failing row of a bus error was written (R215, U6; log 10). -/
opaque freeBit (k : Nat) : Bool

/-- What a register reads while the reset input is asserted (R230 states the values only at release; log 16). -/
opaque freeWord (k : Nat) : Word

end Sys2Proof.Config
end

