-- ==== Sys2Proof/Machine/Arith.lean ====
section
/-!
DEFINITION. The integer notation of 00_scope.md R5 to R9: exact integers, floor shifts, saturation, sign extension,
little-endian bytes, and rows as lists indexed from 0.
-/

namespace Sys2Proof.Machine

/-- `a << n` (R5). -/
def shl (a : Int) (n : Nat) : Int := a * 2 ^ n

/-- `a >> n = floor(a / 2^n)` (R5). -/
def asr (a : Int) (n : Nat) : Int := a / 2 ^ n

/-- `clamp(x, lo, hi)` (R6). -/
def clamp (x lo hi : Int) : Int := if x < lo then lo else if hi < x then hi else x

/-- `sat_D(x)` (R6). -/
def sat (d : Nat) (x : Int) : Int := clamp x 0 (2 ^ d - 1)

/-- `sext_N(v)` of an `N`-bit pattern (R7). -/
def sext (n v : Nat) : Int := if v < 2 ^ (n - 1) then v else v - 2 ^ n

/-- An 8-bit constant at depth `D`: `c << (D - 8)` (R9). -/
def scaled (c : Int) (d : Nat) : Int := shl c (d - 8)

/-- Half of full scale, `1 << (D - 1)` (R9). -/
def mid (d : Nat) : Int := shl 1 (d - 1)

/-- The bytes of `v`, least significant first: byte `i` is `v[8i+7:8i]` (R41). -/
def leBytes : Nat → Nat → List Byte
  | 0, _ => []
  | n + 1, v => BitVec.ofNat 8 v :: leBytes n (v / 256)

/-- The integer little-endian bytes compose to (R41). -/
def leValue : List Byte → Nat
  | [] => 0
  | b :: bs => b.toNat + 256 * leValue bs

/-- An array whose element `i` is `f i` (R8). -/
def tabulate {α : Type} (n : Nat) (f : Nat → α) : List α := (List.range n).map f

/-- Element `i` of an array (R8); no rule reads outside an array's bounds. -/
def nth {α : Type} [Inhabited α] (a : List α) (i : Nat) : α := a.getD i default

/-- All of a list of reads, or nothing where one of them failed. -/
def allSome {α : Type} : List (Option α) → Option (List α)
  | [] => some []
  | none :: _ => none
  | some a :: as => (allSome as).map (a :: ·)

end Sys2Proof.Machine
end

