-- ==== Sys2Proof/Machine/Tables.lean ====
section
/-!
DEFINITION. The two read-only tables of the engine: the colour matrix table CMT (40_color_matrix_table.md) and the
alpha curve table ACT (43_bit_depth_rescaler.md R117, R118), their constraints, and their default contents.
-/

namespace Sys2Proof.Machine

/-- A coefficient `(value, frac)`: the real number `value / 2^frac` (R82). -/
structure Coef where
  value : Nat
  frac : Nat
deriving DecidableEq, Repr

/-- `T(c) = c.value << (8 - c.frac)` (R82). -/
def Coef.scaled (c : Coef) : Int := c.value * 2 ^ (8 - c.frac)

/-- The YUV to RGB record (R82). -/
structure Y2rRecord where
  ym : Coef
  crV : Coef
  cgU : Coef
  cgV : Coef
  cbU : Coef
  yoff : Nat
  presat : Bool
deriving DecidableEq, Repr

/-- The RGB to YUV record (R83). -/
structure R2yRecord where
  f : Nat
  yR : Nat
  yG : Nat
  yB : Nat
  uR : Nat
  uG : Nat
  uB : Nat
  vR : Nat
  vG : Nat
  vB : Nat
  yoff : Nat
deriving DecidableEq, Repr

/-- One entry of the table (R80). -/
structure CmtEntry where
  y2r : Y2rRecord
  r2y : R2yRecord
deriving DecidableEq, Repr

/-- The correction record `CMT.c709`, all magnitudes with 10 fractional bits (R87). -/
structure C709Record where
  yv : Nat
  yu : Nat
  uu : Nat
  uv : Nat
  vu : Nat
  vv : Nat
deriving DecidableEq, Repr

/-- The colour matrix table (R80). -/
structure Cmt where
  e601cg : CmtEntry
  e709cg : CmtEntry
  e601vs : CmtEntry
  e709vs : CmtEntry
  c709 : C709Record
deriving DecidableEq, Repr

/-- The seven integers of the alpha curve table (R26, R117, R118); the three that are shift amounts are naturals (R5). -/
structure Act where
  fs : Nat
  dc : Int
  gain : Int
  ns : Nat
  cgain : Int
  cshift : Nat
  coff : Int
deriving DecidableEq, Repr

/-- A (standard, range) pair (R64). -/
inductive ColourSpace where
  | bt601cg
  | bt709cg
  | bt601vs
  | bt709vs
deriving DecidableEq, Repr

/-- The lookup `CMT[cs]` (R81). -/
def Cmt.entry (t : Cmt) : ColourSpace → CmtEntry
  | .bt601cg => t.e601cg
  | .bt709cg => t.e709cg
  | .bt601vs => t.e601vs
  | .bt709vs => t.e709vs

/-- Every coefficient has 6 to 8 fractional bits (R82). -/
def Y2rRecord.quantised (r : Y2rRecord) : Bool :=
  [r.ym, r.crV, r.cgU, r.cgV, r.cbU].all fun c => 6 ≤ c.frac && c.frac ≤ 8

/-- A coefficient is within one unit of its last place of `milli / 1000`: the reading of "approximates" in R82
(DESIGN CHOICE, log 18; nothing the machine does depends on it). -/
def Coef.near (c : Coef) (milli : Nat) : Bool :=
  1000 * c.value < milli * 2 ^ c.frac + 1000 && milli * 2 ^ c.frac < 1000 * c.value + 1000

/-- The constraints R82 and R83 put on a CG entry. -/
def CmtEntry.cgOk (e : CmtEntry) : Bool :=
  e.y2r.quantised && e.y2r.ym.near 1164 && e.y2r.yoff = 16 && e.y2r.presat
    && 1 ≤ e.r2y.f && e.r2y.f ≤ 13 && e.r2y.yoff = 16

/-- The constraints R82 and R83 put on a VS entry. -/
def CmtEntry.vsOk (e : CmtEntry) : Bool :=
  e.y2r.quantised && e.y2r.ym.scaled = 256 && e.y2r.yoff = 0 && !e.y2r.presat
    && 1 ≤ e.r2y.f && e.r2y.f ≤ 13 && e.r2y.yoff = 0

/-- The constraints of R82 and R83 on the whole table, which a model must check once (R232). -/
def Cmt.ok (t : Cmt) : Bool :=
  t.e601cg.cgOk && t.e709cg.cgOk && t.e601vs.vsOk && t.e709vs.vsOk
    && t.e601cg.y2r.crV.near 1596 && t.e709vs.y2r.crV.near 1540

/-- The default table of R84 and R87 (the spec marks its numbers as general knowledge; log 6). -/
def Cmt.default : Cmt where
  e601cg :=
    { y2r := ⟨⟨149, 7⟩, ⟨204, 7⟩, ⟨100, 8⟩, ⟨208, 8⟩, ⟨129, 6⟩, 16, true⟩
      r2y := ⟨8, 66, 129, 25, 38, 74, 112, 112, 94, 18, 16⟩ }
  e709cg :=
    { y2r := ⟨⟨149, 7⟩, ⟨230, 7⟩, ⟨55, 8⟩, ⟨137, 8⟩, ⟨135, 6⟩, 16, true⟩
      r2y := ⟨8, 47, 157, 16, 26, 86, 112, 112, 102, 10, 16⟩ }
  e601vs :=
    { y2r := ⟨⟨128, 7⟩, ⟨175, 7⟩, ⟨86, 8⟩, ⟨179, 8⟩, ⟨111, 6⟩, 0, false⟩
      r2y := ⟨8, 77, 150, 29, 44, 87, 131, 131, 110, 21, 0⟩ }
  e709vs :=
    { y2r := ⟨⟨128, 7⟩, ⟨197, 7⟩, ⟨47, 8⟩, ⟨118, 8⟩, ⟨116, 6⟩, 0, false⟩
      r2y := ⟨8, 55, 183, 18, 30, 101, 131, 131, 119, 12, 0⟩ }
  c709 := ⟨212, 118, 1043, 117, 77, 1050⟩

/-- The default curve of R117 and R118 (the spec marks its numbers as general knowledge; log 7). -/
def Act.default : Act where
  fs := 0
  dc := 4096
  gain := 9400
  ns := 13
  cgain := 223
  cshift := 8
  coff := 4096

end Sys2Proof.Machine
end

