-- ==== Sys2Proof/Machine/State.lean ====
section
/-!
DEFINITION. The state of PXC (10_state.md R10), of its memory, and of the host's pending actions (70_reset_and_hazards.md
R236), as plain data; the state after reset (R34); the reasons for which the MODEL stops.
-/

namespace Sys2Proof.Machine

/-- The six values of `STATUS.ERR` (60_exceptions.md R210). -/
inductive ErrCode where
  | none
  | csd
  | fmt
  | combo
  | roi
  | bus
deriving DecidableEq, Repr

/-- The request registers: the part of the register block that a START latches (R14 to R17, R19 to R21, R23). -/
structure ReqRegs where
  /-- `REQ_OP` (R14). -/
  reqOp : Word
  /-- `ROI` (R15). -/
  roi : Word
  /-- `FRAME` (R16). -/
  frame : Word
  /-- `DITHER_CTL` (R17). -/
  ditherCtl : Word
  /-- `PLANE_BASE[0..3]` (R19). -/
  planeBase : Vector Word 4
  /-- `PLANE_PITCH[0..3]` (R19). -/
  planePitch : Vector Word 4
  /-- `PLANE_TAG[0..3]` (R20). -/
  planeTag : Vector Word 4
  /-- `EXT_BASE[0..2]` (R21). -/
  extBase : Vector Word 3
  /-- `EXT_PITCH[0..2]` (R21). -/
  extPitch : Vector Word 3
deriving DecidableEq, Repr

/-- The reset values of the request registers (R34). -/
def ReqRegs.zero : ReqRegs where
  reqOp := 0
  roi := 0
  frame := 0
  ditherCtl := 0
  planeBase := Vector.replicate 4 0
  planePitch := Vector.replicate 4 0
  planeTag := Vector.replicate 4 0
  extBase := Vector.replicate 3 0
  extPitch := Vector.replicate 3 0

/-- A run of byte addresses. -/
structure Region where
  base : Nat
  size : Nat
deriving DecidableEq, Repr

/-- What the platform around PXC fixes (R4, U4, U12, U13): where the host sees the register block, which addresses it
does not back, and which hold memory with read side effects. No step changes it. -/
structure Platform where
  regBase : Word
  unbacked : List Region
  devices : List Region
deriving DecidableEq, Repr

/-- The width of a host access to the register block (R11: only whole words are defined). -/
inductive AccessWidth where
  | byte
  | half
  | word
deriving DecidableEq, Repr

/-- One pending action of the host (R236), or the turn it leaves to the engine (log 11). -/
inductive HostAct where
  /-- The host does nothing: the engine takes its step. -/
  | engine
  /-- `WAIT`: read `STATUS` until `DONE = 1` (R74). -/
  | wait
  /-- Read of the register at a byte address of the host's view. -/
  | regRead (addr : Word) (width : AccessWidth)
  /-- Write of the register at a byte address of the host's view. -/
  | regWrite (addr : Word) (width : AccessWidth) (value : Word)
  /-- Read of a byte of memory, by the host or another bus master. -/
  | memRead (addr : Word)
  /-- Write of a byte of memory, by the host or another bus master. -/
  | memWrite (addr : Word) (value : Byte)
  /-- The level of the reset input `rst` (R230). -/
  | reset (level : Bool)
deriving DecidableEq, Repr

/-- Memory: (address, byte) pairs, addresses strictly rising, no entry equal to what an unlisted address reads as. -/
abbrev Memory := List Host.Cell

/-- The machine. -/
structure State where
  /-- The live request registers (R10). -/
  regs : ReqRegs
  /-- `CTRL.IE` (R12). -/
  ie : Bool
  /-- `STATUS.BUSY` (R13). -/
  busy : Bool
  /-- `STATUS.DONE` (R13). -/
  done : Bool
  /-- `STATUS.ERR` (R13, R210). -/
  err : ErrCode
  /-- The row cursor `ROW` (R24). -/
  row : BitVec 16
  /-- The latched request `cur` (R23). -/
  cur : ReqRegs
  /-- `DITHER_SEED`, the state of the seeded generator (R18, R28). -/
  dstate : Word
  /-- The colour matrix table (R25). -/
  cmt : Cmt
  /-- The alpha curve table (R26). -/
  act : Act
  /-- The memory the host owns and the engine reads and writes (R33, R40). -/
  mem : Memory
  /-- The platform's parameters (R4). -/
  platform : Platform
  /-- The level of the reset input (R230). -/
  rst : Bool
  /-- The host's pending actions; the head is taken at the next step, and where there is none the engine moves. -/
  host : List HostAct
  /-- The word the host's last read returned (R74). The model's own field (log 16). -/
  readData : Word
  /-- Whether duty 3 of R236 was broken during the running request. The model's own field (log 9). -/
  tainted : Bool
  /-- The index of the next free value. The model's own field (log 20). -/
  freeCtr : Nat
deriving DecidableEq, Repr

/-- Where the model stops with a fault. -/
inductive Fault where
  /-- Raised by the host's own `memRead` and `memWrite` at an address the platform does not back. The spec says what the
  ENGINE does there (`ERR_BUS`, a next state) and nothing of the host's bus. Safe: the model stops (log 17). -/
  | hostAccess
deriving DecidableEq, Repr

/-- What the model does not give a meaning. -/
inductive Refusal where
  /-- Raised by `exec` for an instruction that has no meaning yet. Safe: the model stops. -/
  | notModelled (mnemonic : String)
  /-- Raised by a host access to the register block that is narrow, misaligned or outside offsets `0x00 .. 0x7C`: "a model
  must refuse it" (R11, R22, U5). Safe: the model stops (log 19). -/
  | registerAccess
  /-- Raised by a START whose footprint touches memory with read side effects, and by the host's own access to such a
  device: "a model should refuse such a launch" (R49, U4). Safe: the model stops (log 3). -/
  | sideEffectMemory
deriving DecidableEq, Repr

/-- The state right after reset (R34): every register 0 but `DITHER_SEED = 1`; the tables at their built-in contents;
nothing in memory; no pending host action. `cur` is unspecified there (DESIGN CHOICE zero, log 5); the platform's
parameters and the model's own fields are DESIGN CHOICES (log 1, 2, 3, 16, 20). -/
def State.reset : State where
  regs := ReqRegs.zero
  ie := false
  busy := false
  done := false
  err := .none
  row := 0
  cur := ReqRegs.zero
  dstate := 1
  cmt := Cmt.default
  act := Act.default
  mem := []
  platform := { regBase := 0, unbacked := [], devices := [] }
  rst := false
  host := []
  readData := 0
  tainted := false
  freeCtr := 0

end Sys2Proof.Machine
end

