-- ==== Sys2Proof/Machine/Ops.lean ====
section
/-!
DEFINITION. The named operations over memory and registers: bytes of memory (20_memory.md R40, R41), the bus error
condition (R50), byte spans, unspecified bytes, the end of a request with an error (60_exceptions.md R215, R217),
the `CLR` command that ends it (R218), completion (R196) and soft reset (R231).
-/

namespace Sys2Proof.Machine

/-! ## Memory -/

/-- What a byte of memory that nothing has written reads as (DESIGN CHOICE, log 4: PXC's memory is the host's and the
spec gives it no contents). -/
def background : Byte := 0

/-- The byte at an address (R40). -/
def loadByte : Memory → Nat → Byte
  | [], _ => background
  | (k, v) :: t, a => if a = k then v else loadByte t a

/-- Write one byte, keeping the canonical form (R41). -/
def storeByte : Memory → Nat → Byte → Memory
  | [], a, b => if b = background then [] else [(a, b)]
  | (k, v) :: t, a, b =>
    if a < k then (if b = background then (k, v) :: t else (a, b) :: (k, v) :: t)
    else if a = k then (if b = background then t else (a, b) :: t)
    else (k, v) :: storeByte t a b

/-- The canonical form, with every address at least `lo`. -/
def memoryWfFrom : Nat → Memory → Bool
  | _, [] => true
  | lo, (k, v) :: t => lo ≤ k && v ≠ background && memoryWfFrom (k + 1) t

/-- Memory is in canonical form: addresses strictly rising and no entry equal to the background. -/
def Memory.wf (m : Memory) : Bool := memoryWfFrom 0 m

/-- Every listed address lies in the memory space (R40). -/
def Memory.inSpace (m : Memory) : Bool := m.all fun c => c.1 < 2 ^ 32

/-- A run of byte addresses in the integers: addresses are computed in ℤ and never wrapped (R41). -/
structure Span where
  start : Int
  len : Nat
deriving DecidableEq, Repr

/-- The two runs have a byte in common. -/
def Span.meets (a b : Span) : Bool :=
  0 < a.len && 0 < b.len && a.start < b.start + b.len && b.start < a.start + a.len

/-- The addresses of a run. -/
def Span.addresses (a : Span) : List Int := tabulate a.len fun i => a.start + i

/-- A platform region as a run of addresses. -/
def Region.span (r : Region) : Span := ⟨r.base, r.size⟩

/-- Whether an access of `n` bytes at `addr` is answered without `BusError`: it lies in `0 .. 2^32 - 1` and every byte of
it is backed (R41, R50, U13). -/
def accessOk (p : Platform) (addr : Int) (n : Nat) : Bool :=
  0 ≤ addr && addr + n ≤ 2 ^ 32 && p.unbacked.all fun r => !(Span.meets ⟨addr, n⟩ r.span)

/-- `MemRead(addr, n)` (R41); `none` is `raise BusError(addr)`. -/
def memRead (p : Platform) (m : Memory) (addr : Int) (n : Nat) : Option Nat :=
  if accessOk p addr n then some (leValue (tabulate n fun i => loadByte m (addr.toNat + i))) else none

/-- One `MemWrite(addr, n, v)` of a row (R41). -/
structure Wr where
  addr : Int
  n : Nat
  v : Nat
deriving DecidableEq, Repr

/-- The bytes a `MemWrite` puts at its addresses: byte `v[8i+7:8i]` at `addr + i` (R41). -/
def Wr.bytes (w : Wr) : List (Int × Byte) :=
  tabulate w.n fun i => (w.addr + i, (leBytes w.n w.v).getD i 0)

/-- No write of the list raises `BusError` (R41). -/
def writesOk (p : Platform) (ws : List Wr) : Bool := ws.all fun w => accessOk p w.addr w.n

/-- Store bytes one after the other. -/
def storeBytes (m : Memory) (bs : List (Int × Byte)) : Memory :=
  bs.foldl (fun m b => storeByte m b.1.toNat b.2) m

/-- The bytes of a failing row: each one that the memory backs holds its new value or keeps its old one, as the free
values say (R215, U6; log 10). The second component is the next index of a free value. -/
def storeSome (p : Platform) : List (Int × Byte) → Memory → Nat → Memory × Nat
  | [], m, k => (m, k)
  | (a, b) :: bs, m, k =>
    storeSome p bs (if accessOk p a 1 && Config.freeBit k then storeByte m a.toNat b else m) (k + 1)

/-- Bytes whose contents the spec leaves unspecified: each one that the memory backs takes a free value (R54, R230; U1,
U7, U14; log 9). -/
def storeFree (p : Platform) : List Int → Memory → Nat → Memory × Nat
  | [], m, k => (m, k)
  | a :: as, m, k =>
    storeFree p as (if accessOk p a 1 then storeByte m a.toNat (Config.freeByte k) else m) (k + 1)

/-- Make every byte of the spans unspecified. -/
def unspecify (spans : List Span) (s : State) : State :=
  let r := storeFree s.platform (spans.flatMap Span.addresses) s.mem s.freeCtr
  { s with mem := r.1, freeCtr := r.2 }

/-! ## The end of a request -/

/-- An error ends the request (R217): the code is recorded, the engine is idle, the request is done. There is no handler,
no saved context and no return address. `ROW` keeps its value: 0 for a configuration error, the failing row for a bus
error (R215). -/
def takeError (e : ErrCode) (s : State) : State :=
  { s with err := e, busy := false, done := true }

/-- A configuration error (R217): as `takeError`, with `ROW = 0`; no memory is touched and no register changed. -/
def takeConfigError (e : ErrCode) (s : State) : State := takeError e { s with row := 0 }

/-- A bus error on a read of the row: nothing of the row is written and none of its draws made (R215). -/
def takeReadError (s : State) : State := takeError .bus s

/-- A bus error on a write of the row: all draws of the row have been made (`s` holds them) and any subset of the row's
bytes has been written (R215, U6). -/
def takeWriteError (ws : List Wr) (s : State) : State :=
  let r := storeSome s.platform (ws.flatMap Wr.bytes) s.mem s.freeCtr
  takeError .bus { s with mem := r.1, freeCtr := r.2 }

/-- `Complete()` (R196). -/
def complete (s : State) : State := { s with busy := false, done := true }

/-- The effect of `CLR`, the return from an error (R218). -/
def clearStatus (s : State) : State := { s with done := false, err := .none, row := 0 }

/-- The effect of `SRST` and of reset on the registers (R34, R231): every register takes its reset value; the tables, the
memory, the platform and the host's side are untouched. -/
def resetRegisters (s : State) : State :=
  { State.reset with
    cmt := s.cmt, act := s.act, mem := s.mem, platform := s.platform, rst := s.rst, host := s.host,
    readData := s.readData, freeCtr := s.freeCtr }

end Sys2Proof.Machine
end

