-- ==== Sys2Proof/Machine/Operands.lean ====
section
/-!
DEFINITION. Operand decoding of a request (30_encoding.md R64 to R67, R75), the format property table (R70), validation
(46_row_driver.md R191, R192), plane and external row addresses (20_memory.md R42 to R46), planar loads and stores
(R44, R45), and the footprints of a request (R131, R199).
-/

namespace Sys2Proof.Machine

/-! ## Fields -/

/-- `CS` (R64): `none` where it names no standard or both. -/
def decodeCs (c : BitVec 3) : Option ColourSpace :=
  match c.toNat with
  | 1 => some .bt601cg
  | 2 => some .bt709cg
  | 5 => some .bt601vs
  | 6 => some .bt709vs
  | _ => none

/-- `depth(PDEPTH)` (R67): `none` for the reserved codes 5 to 7. -/
def decodeDepth (c : BitVec 3) : Option Nat :=
  match c.toNat with
  | 0 => some 8
  | 1 => some 10
  | 2 => some 12
  | 3 => some 13
  | 4 => some 16
  | _ => none

/-- The dither modes (R17, R112). -/
inductive DitherMode where
  | free
  | seeded
  | off
deriving DecidableEq, Repr

/-- `DITHER_CTL.MODE` (R17): `none` for the reserved mode 3. -/
def decodeMode (w : Word) : Option DitherMode :=
  match slice w 0 2 with
  | 0 => some .free
  | 1 => some .seeded
  | 2 => some .off
  | _ => none

/-- The channels (R20). -/
inductive Chan where
  | y
  | u
  | v
  | r
  | g
  | b
  | a
deriving DecidableEq, Repr

/-- `tag(c)` (R20); tag 0 is an unused slot. -/
def Chan.tag : Chan → Nat
  | .y => 1
  | .u => 2
  | .v => 3
  | .r => 4
  | .g => 5
  | .b => 6
  | .a => 7

/-- `PLANE_TAG[i].TAG` (R20). -/
def tagOf (w : Word) : Nat := slice w 0 3

/-- `ROI.W` (R15). -/
def roiW (c : ReqRegs) : Nat := slice c.roi 0 16

/-- `ROI.H` (R15). -/
def roiH (c : ReqRegs) : Nat := slice c.roi 16 16

/-- `FRAME.W` (R16). -/
def frameW (c : ReqRegs) : Nat := slice c.frame 0 16

/-! ## Structures and formats -/

/-- A sample structure: of the planar side (R66) or of an external layout (R70). -/
inductive Structure where
  | yuv422
  | yuv444
  | yuv420
  | rgb
  | rgba
deriving DecidableEq, Repr

/-- The structure of a planar family (R66). -/
def familyStructure : Family → Structure
  | .yuv422 => .yuv422
  | .yuv444 => .yuv444
  | .rgb => .rgb
  | .rgba => .rgba

/-- A YUV structure. -/
def Structure.isYuv : Structure → Bool
  | .yuv422 | .yuv444 | .yuv420 => true
  | .rgb | .rgba => false

/-- Chroma has half the columns of luma (R43). -/
def Structure.halfChroma : Structure → Bool
  | .yuv422 | .yuv420 => true
  | .yuv444 | .rgb | .rgba => false

/-- The three colour channels of a structure, in draw order (R114 item 3). -/
def Structure.colours (k : Structure) : Chan × Chan × Chan :=
  if k.isYuv then (.y, .u, .v) else (.r, .g, .b)

/-- The channels a planar family needs (R66). -/
def familyChans : Family → List Chan
  | .yuv422 | .yuv444 => [.y, .u, .v]
  | .rgb => [.r, .g, .b]
  | .rgba => [.r, .g, .b, .a]

/-- `kind` of the format property table (R70). -/
def fmtKind : Fmt → Structure
  | .yuyv | .uyvy | .v210 | .yu64 | .avid28 | .avid214 | .avid106 => .yuv422
  | .nv12 | .yv12 => .yuv420
  | .rgb24 | .rgb32 | .rgb48 | .rg30 | .ar10 | .ab10 | .r210 | .dpx0 | .rgb8p => .rgb
  | .rgba32 | .rgba64 | .bgra64 | .rgba8p => .rgba

/-- `Dext` of the format property table (R70). -/
def fmtDepth : Fmt → Nat
  | .yuyv | .uyvy | .rgb24 | .rgb32 | .rgba32 | .nv12 | .yv12 => 8
  | .v210 | .rg30 | .ar10 | .ab10 | .r210 | .dpx0 | .avid28 => 10
  | .avid214 => 14
  | .yu64 | .rgb48 | .rgba64 | .bgra64 | .rgb8p | .rgba8p | .avid106 => 16

/-- `period` of the format property table, in pixels (R70). -/
def fmtPeriod : Fmt → Nat
  | .yuyv | .uyvy | .yu64 | .nv12 | .yv12 | .avid28 | .avid214 | .avid106 => 2
  | .v210 => 6
  | .rgb8p | .rgba8p => 8
  | .rgb24 | .rgb32 | .rgba32 | .rgb48 | .rgba64 | .bgra64 | .rg30 | .ar10 | .ab10 | .r210 | .dpx0 => 1

/-- `rowbytes_f(n)` of buffer 0 (R131 and the span table of 45_format_codecs_rgb.md). -/
def rowBytes (n : Nat) : Fmt → Nat
  | .yuyv | .uyvy => 2 * n
  | .v210 => 16 * n / 6
  | .yu64 | .avid214 | .avid106 => 4 * n
  | .nv12 | .yv12 => n
  | .avid28 => n / 2
  | .rgb24 => 3 * n
  | .rgb32 | .rgba32 | .rg30 | .ar10 | .ab10 | .r210 | .dpx0 => 4 * n
  | .rgb48 | .rgb8p => 6 * n
  | .rgba64 | .bgra64 | .rgba8p => 8 * n

/-! ## Validation -/

/-- The number of slots whose tag is `c`'s (R191). -/
def tagCount (c : ReqRegs) (ch : Chan) : Nat := c.planeTag.toList.countP fun w => tagOf w = ch.tag

/-- Some channel the family needs has not exactly one slot (R191 step 2). -/
def tagsBad (c : ReqRegs) (f : Family) : Bool := (familyChans f).any fun ch => tagCount c ch ≠ 1

/-- The width multiple `P` of R192: `lcm(period, 2)` with 4:2:2 planes, else the format's period. -/
def widthMultiple (fam : Family) (f : Fmt) : Nat :=
  match fam with
  | .yuv422 => Nat.lcm (fmtPeriod f) 2
  | .yuv444 | .rgb | .rgba => fmtPeriod f

/-- `GeometryBad` (R192). -/
def geometryBad (c : ReqRegs) (d : Dir) (f : Fmt) (fam : Family) : Bool :=
  roiW c % widthMultiple fam f ≠ 0
    || (d = .pack && frameW c < roiW c)
    || (d = .pack && frameW c % fmtPeriod f ≠ 0)
    || (d = .pack && fmtKind f = .yuv420 && roiH c % 2 ≠ 0)

/-- `Validate` (R191): the first error in the fixed order of R216, or none. -/
def validate (c : ReqRegs) : Option ErrCode :=
  let q := reqFields c.reqOp
  if !q.csLegal then some .csd
  else if !reqReservedZero c.reqOp then some .fmt
  else match Fmt.ofTag (slice c.reqOp 0 6) with
    | none => some .fmt
    | some f =>
      if !q.depthLegal then some .fmt
      else if !q.signLegal then some .fmt
      else if (decodeMode c.ditherCtl).isNone then some .fmt
      else if tagsBad c q.pfam then some .fmt
      else if reqDir c.reqOp = .unpack && (f = .nv12 || f = .yv12) then some .combo
      else if geometryBad c (reqDir c.reqOp) f q.pfam then some .roi
      else none

/-! ## The request as an operand -/

/-- A request that has passed validation, with its operands decoded (R75, R200). -/
structure Job where
  dir : Dir
  fmt : Fmt
  q : ReqFields
  c : ReqRegs
  /-- `S = depth(PDEPTH)`. -/
  s : Nat
  mode : DitherMode
  /-- `e = CMT[cs]`. -/
  e : CmtEntry
deriving DecidableEq, Repr

/-- Decode the operands of a request of direction `d`, format `f` and fields `q`, whose other operands are the latched
registers `c` (R75, R81, R200); the error of R191 where it is not valid. -/
def prepare (t : Cmt) (d : Dir) (f : Fmt) (q : ReqFields) (c : ReqRegs) : Except ErrCode Job :=
  let c := { c with reqOp := reqWord d f q }
  match validate c with
  | some e => .error e
  | none =>
    match decodeCs q.cs, decodeDepth q.pdepth, decodeMode c.ditherCtl with
    | some cs, some s, some m => .ok ⟨d, f, q, c, s, m, t.entry cs⟩
    | none, _, _ => .error .csd
    | some _, _, _ => .error .fmt

/-- The same from the latched registers alone. -/
def prepareLatched (t : Cmt) (c : ReqRegs) : Except ErrCode Job :=
  match validate c with
  | some e => .error e
  | none =>
    match reqView c.reqOp with
    | some (d, f, q) => prepare t d f q c
    | none => .error .fmt

/-- `W = ROI.W`. -/
def Job.w (j : Job) : Nat := roiW j.c

/-- `H = ROI.H`. -/
def Job.h (j : Job) : Nat := roiH j.c

/-- `FW = FRAME.W`. -/
def Job.fw (j : Job) : Nat := frameW j.c

/-- The structure of the planar side. -/
def Job.fam (j : Job) : Structure := familyStructure j.q.pfam

/-- The structure of the external side. -/
def Job.kind (j : Job) : Structure := fmtKind j.fmt

/-- `Dext`. -/
def Job.dext (j : Job) : Nat := fmtDepth j.fmt

/-- `Dw = max(S, Dext)` (R119). -/
def Job.dw (j : Job) : Nat := max j.s j.dext

/-- `Din` (R119). -/
def Job.din (j : Job) : Nat := match j.dir with
  | .pack => j.s
  | .unpack => j.dext

/-- `Dout` (R119). -/
def Job.dout (j : Job) : Nat := match j.dir with
  | .pack => j.dext
  | .unpack => j.s

/-! ## Addresses -/

/-- `bps`, the bytes of one planar sample (R42). -/
def Job.bps (j : Job) : Nat := if j.s = 8 then 1 else 2

/-- `slot(c)` (R20): the slot that carries the channel's tag (the only one, in a valid request). -/
def slot (c : ReqRegs) (ch : Chan) : Nat := c.planeTag.toList.findIdx fun w => tagOf w = ch.tag

/-- `PlaneAddr(c, r, x)` (R43). -/
def planeAddr (j : Job) (ch : Chan) (r x : Nat) : Int :=
  let i := slot j.c ch
  (j.c.planeBase.toList.getD i 0).toNat + r * (j.c.planePitch.toList.getD i 0).toInt + x * j.bps

/-- `ncols(c)`: the columns of a channel in a structure (R43, 46_row_driver.md section 2). -/
def ncols (k : Structure) (w : Nat) : Chan → Nat
  | .u | .v => if k.halfChroma then w / 2 else w
  | .y | .r | .g | .b | .a => w

/-- `erow(r, Hj)` (R46). -/
def erow (j : Job) (r hj : Nat) : Int := if j.q.vflip then (hj : Int) - 1 - r else r

/-- The address of row `r` of an external buffer of `hj` rows (R46). -/
def extRowOf (j : Job) (b r hj : Nat) : Int :=
  (j.c.extBase.toList.getD b 0).toNat + erow j r hj * (j.c.extPitch.toList.getD b 0).toInt

/-- `ExtRow(j, r)` of a buffer with `ROI.H` rows (R46). -/
def extRow (j : Job) (b r : Nat) : Int := extRowOf j b r j.h

/-- The address in a 4:2:0 chroma buffer of the chroma row of the odd row `r`: chroma row `(r - 1) / 2` of `ROI.H / 2`
(R46, R142). -/
def chromaRow (j : Job) (b r : Nat) : Int := extRowOf j b ((r - 1) / 2) (j.h / 2)

/-! ## Planar loads and stores -/

/-- `LoadPlanar(c, r, x)` (R44). -/
def loadPlanar (p : Platform) (m : Memory) (j : Job) (ch : Chan) (r x : Nat) : Option Int :=
  (memRead p m (planeAddr j ch r x) j.bps).map fun raw => if j.q.psigned then sext 16 raw else raw

/-- `StorePlanar(c, r, x, v)` (R45). -/
def storePlanar (j : Job) (ch : Chan) (r x v : Nat) : Wr := ⟨planeAddr j ch r x, j.bps, v⟩

/-! ## Footprints -/

/-- The bytes of external row `r` of a request, `n` pixels wide (R131, R199). -/
def extSpans (j : Job) (n r : Nat) : List Span :=
  match j.fmt with
  | .avid28 => [⟨extRow j 0 r, rowBytes n j.fmt⟩, ⟨extRow j 1 r, 2 * n⟩]
  | .nv12 =>
    ⟨extRow j 0 r, rowBytes n j.fmt⟩ :: (if r % 2 = 1 then [⟨chromaRow j 1 r, n⟩] else [])
  | .yv12 =>
    ⟨extRow j 0 r, rowBytes n j.fmt⟩
      :: (if r % 2 = 1 then [⟨chromaRow j 1 r, n / 2⟩, ⟨chromaRow j 2 r, n / 2⟩] else [])
  | .yuyv | .uyvy | .v210 | .yu64 | .rgb24 | .rgb32 | .rgba32 | .rgb48 | .rgba64 | .bgra64 | .rg30 | .ar10 | .ab10
  | .r210 | .dpx0 | .rgb8p | .rgba8p | .avid214 | .avid106 => [⟨extRow j 0 r, rowBytes n j.fmt⟩]

/-- The bytes of planar row `r` of every channel of the family (R199). -/
def planeSpans (j : Job) (r : Nat) : List Span :=
  (familyChans j.q.pfam).map fun ch => ⟨planeAddr j ch r 0, ncols j.fam j.w ch * j.bps⟩

/-- The bytes row `r` reads (R199). -/
def rowReads (j : Job) (r : Nat) : List Span := match j.dir with
  | .pack => planeSpans j r
  | .unpack => extSpans j j.w r

/-- The bytes row `r` writes (R199). -/
def rowWrites (j : Job) (r : Nat) : List Span := match j.dir with
  | .pack => extSpans j j.fw r
  | .unpack => planeSpans j r

/-- The read footprint (R199). -/
def readFootprint (j : Job) : List Span := (List.range j.h).flatMap (rowReads j)

/-- The write footprint (R199). -/
def writeFootprint (j : Job) : List Span := (List.range j.h).flatMap (rowWrites j)

/-- Some two runs of the list have a byte in common. -/
def selfMeets : List Span → Bool
  | [] => false
  | a :: as => as.any (a.meets ·) || selfMeets as

/-- The write footprint overlaps the read footprint or itself (R54). -/
def overlaps (j : Job) : Bool :=
  (writeFootprint j).any (fun a => (readFootprint j).any (a.meets ·)) || selfMeets (writeFootprint j)

/-- The footprints hold a byte of a region (R49). -/
def footprintTouches (j : Job) (r : Region) : Bool :=
  (readFootprint j ++ writeFootprint j).any (r.span.meets ·)

end Sys2Proof.Machine
end

