-- ==== Sys2Proof/Machine/Bdr.lean ====
section
/-!
DEFINITION. The bit-depth rescaler BDR, the dither source DTH and the alpha curve ACT (43_bit_depth_rescaler.md), and the
exit stage of a row with its draw order (R114, R121 to R123, R206).
-/

namespace Sys2Proof.Machine

/-! ## Depth operations -/

/-- `BDR.WIDEN(v, S, T)` (R110). -/
def widen (v : Int) (s t : Nat) : Int := shl v (t - s)

/-- `BDR.NARROW(v, S, T)` with the dither value `d` (R111). -/
def narrow (v : Int) (s t d : Nat) : Int := sat t (asr (v + d) (s - t))

/-- The bias of the signed operation, `2^(S+1)` (R115). -/
def signBias (s : Nat) : Int := shl 1 (s + 1)

/-- `BDR.SNARROW(v, S, T)` with the dither value `d` (R115): DOC's operation on signed planes. PXC has no separate signed
path: the entry stage `toWorking` and `narrow` give the same result (R116). -/
def snarrow (v : Int) (s t d : Nat) : Int :=
  sat t (asr (v + signBias s + d) (s - t) - asr (signBias s) (s - t))

/-! ## The dither source -/

/-- What draws change: the seeded generator's state (R18) and the index of the next free value. -/
structure Draws where
  dstate : Word
  ctr : Nat
deriving DecidableEq, Repr

/-- The new state of `SeededDraw` (R113). -/
def seededNext (w : Word) : Word := w * 1664525#32 + 1013904223#32

/-- The value of `SeededDraw(sh)` from the new state: its top `sh - 1` bits (R113). -/
def seededValue (w : Word) (sh : Nat) : Nat := w.toNat / 2 ^ (32 - (sh - 1))

/-- `draw(sh)` (R112). Mode `FREE` takes a free value in `0 .. 2^(sh-1) - 1` (U2; log 8). -/
def draw (m : DitherMode) (sh : Nat) (ds : Draws) : Nat × Draws :=
  if sh ≤ 1 then (0, ds)
  else match m with
    | .free => (Config.ditherSrc ds.ctr % 2 ^ (sh - 1), { ds with ctr := ds.ctr + 1 })
    | .seeded => (seededValue (seededNext ds.dstate) sh, { ds with dstate := seededNext ds.dstate })
    | .off => (0, ds)

/-! ## The alpha curve -/

/-- `ACT.DECOMP(st)` (R117). -/
def actDecomp (t : Act) (st : Int) : Int := sat 16 (asr ((shl st t.fs - t.dc) * t.gain) t.ns)

/-- `ACT.COMP(lin)` (R118). -/
def actComp (t : Act) (lin : Int) : Int := sat 16 (asr (lin * t.cgain) t.cshift + t.coff)

/-! ## Entry and exit stages -/

/-- `ToWorking(v)` (R120). -/
def toWorking (j : Job) (v : Int) : Int := widen (sat j.din v) j.din j.dw

/-- One output sample waiting for its depth change: channel, value, and the depths it goes from and to. Where the two are
equal it is kept and draws nothing (R114 item 6, R121). -/
structure Item where
  ch : Chan
  v : Int
  s : Nat
  t : Nat
deriving DecidableEq, Repr

/-- The depth change of one output sample (R121, R123): kept where the depths are equal, else narrowed with one draw. -/
def exitSample (m : DitherMode) (it : Item) (ds : Draws) : Int × Draws :=
  if it.s ≤ it.t then (it.v, ds)
  else
    let d := draw m (it.s - it.t) ds
    (narrow it.v it.s it.t d.1, d.2)

/-- The exit stage over samples in draw order (R114). -/
def exitStage (m : DitherMode) : List Item → Draws → List (Chan × Nat) × Draws
  | [], ds => ([], ds)
  | it :: its, ds =>
    let r := exitSample m it ds
    let rest := exitStage m its r.2
    ((it.ch, r.1.toNat) :: rest.1, rest.2)

/-- The output samples of one channel, in column order. -/
def channelOf (ch : Chan) (os : List (Chan × Nat)) : List Nat :=
  os.filterMap fun o => if o.1 = ch then some o.2 else none

/-! ## Alpha -/

/-- `Aconst` (R122). -/
def aconst (t : Act) (j : Job) : Int :=
  if j.dir = .unpack && j.q.acomp then asr (actComp t 65535) (16 - j.s) else 2 ^ j.dout - 1

/-- The input side has an alpha channel. -/
def Job.alphaIn (j : Job) : Bool := match j.dir with
  | .pack => j.fam = .rgba
  | .unpack => j.kind = .rgba

/-- The output side has an alpha channel. -/
def Job.alphaOut (j : Job) : Bool := match j.dir with
  | .pack => j.kind = .rgba
  | .unpack => j.fam = .rgba

/-- `AlphaOut(x)` (R206) before its depth change: the constant (R122), or the alpha path of R123 on the input sample. -/
def alphaItem (t : Act) (j : Job) (ain : Int) : Item :=
  if !j.alphaIn then ⟨.a, aconst t j, j.dout, j.dout⟩
  else if !j.q.acomp then ⟨.a, toWorking j ain, j.dw, j.dout⟩
  else match j.dir with
    | .pack => ⟨.a, actDecomp t (widen (sat j.s ain) j.s 16), 16, j.dext⟩
    | .unpack => ⟨.a, actComp t (widen ain j.dext 16), 16, j.s⟩

end Sys2Proof.Machine
end

