-- ==== Sys2Proof/Machine/Cmx.lean ====
section
/-!
DEFINITION. The colour matrix transform CMX (41_color_matrix_transform.md R90 to R93), on one pixel at one depth.
-/

namespace Sys2Proof.Machine

/-- `CMX.PRESAT` (R90). -/
def presat (d : Nat) (e : Y2rRecord) (y u v : Int) : Int × Int × Int :=
  if e.presat then
    (clamp y (scaled 16 d) (scaled 235 d), clamp u (scaled 16 d) (scaled 240 d), clamp v (scaled 16 d) (scaled 240 d))
  else (y, u, v)

/-- `CMX.Y2R` (R91). -/
def y2r (d : Nat) (e : Y2rRecord) (y u v : Int) : Int × Int × Int :=
  let t := presat d e y u v
  let y1 := t.1 - scaled e.yoff d
  let u1 := t.2.1 - scaled 128 d
  let v1 := t.2.2 - scaled 128 d
  let yp := e.ym.scaled * y1
  (sat d (asr (yp + e.crV.scaled * v1) 8),
   sat d (asr (yp - e.cgU.scaled * u1 - e.cgV.scaled * v1) 8),
   sat d (asr (yp + e.cbU.scaled * u1) 8))

/-- `CMX.R2Y` (R92). -/
def r2y (d : Nat) (e : R2yRecord) (r g b : Int) : Int × Int × Int :=
  let h := shl 1 (e.f - 1)
  (sat d (asr (e.yR * r + e.yG * g + e.yB * b + shl (scaled e.yoff d) e.f + h) e.f),
   sat d (asr (-e.uR * r - e.uG * g + e.uB * b + shl (scaled 128 d) e.f + h) e.f),
   sat d (asr (e.vR * r - e.vG * g - e.vB * b + shl (scaled 128 d) e.f + h) e.f))

/-- `CMX.C709` (R93). -/
def c709 (d : Nat) (k : C709Record) (y u v : Int) : Int × Int × Int :=
  let u1 := u - mid d
  let v1 := v - mid d
  (sat d (asr (1024 * y - k.yv * v1 - k.yu * u1) 10),
   sat d (asr (k.uu * u1 + k.uv * v1) 10 + mid d),
   sat d (asr (k.vu * u1 + k.vv * v1) 10 + mid d))

end Sys2Proof.Machine
end

