-- ==== Sys2Proof/Machine/Crs.lean ====
section
/-!
DEFINITION. The chroma resampler CRS (42_chroma_resampler.md R100 to R103), on one chroma channel of one row.
-/

namespace Sys2Proof.Machine

/-- `CRS.UP(C, n)` (R100): the sample itself at column `2k`, the truncating average with the next one at `2k + 1`, and
replication in the last column. -/
def crsUp (c : List Int) (n : Nat) : List Int :=
  tabulate (2 * n) fun x =>
    let k := x / 2
    if x % 2 = 0 then nth c k
    else if k + 1 < n then asr (nth c k + nth c (k + 1)) 1
    else nth c k

/-- `CRS.REP(C, n)` (R101). -/
def crsRep (c : List Int) (n : Nat) : List Int := tabulate (2 * n) fun x => nth c (x / 2)

/-- `CRS.DOWN(C, n)` (R102): the rounded average. -/
def crsDown (c : List Int) (n : Nat) : List Int :=
  tabulate n fun k => asr (nth c (2 * k) + nth c (2 * k + 1) + 1) 1

/-- `CRS.VDEC` (R103): whether the chroma of planar row `r` reaches a 4:2:0 output. -/
def vdecKeeps (r : Nat) : Bool := r % 2 = 1

end Sys2Proof.Machine
end

