-- ==== Sys2Proof/Machine/Driver.lean ====
section
/-!
DEFINITION. The strip/row driver SRD (46_row_driver.md): `Convert` (R203), the exit stage's draw order (R114), fill
(44_format_codecs_yuv.md R133), `PackRow` (R194), `UnpackRow` (R195), the engine's step on a latched request (R193), and
the acceptance of a START (R190).
-/

namespace Sys2Proof.Machine

/-- The three colour channels of a row of input or working samples: `Y, U, V` or `R, G, B`. -/
structure Rows where
  c0 : List Int
  c1 : List Int
  c2 : List Int
deriving DecidableEq, Repr

/-- The arrays a format rule places or extracts: `Y, U, V` or `R, G, B`, and `A` (R130). -/
structure Arrays where
  c0 : List Nat
  c1 : List Nat
  c2 : List Nat
  a : List Nat
deriving DecidableEq, Repr

/-! ## Convert -/

/-- The row form of the 601 to 709 correction (R96): luma column `x` uses the chroma of column `x >> sub`. -/
def correctRow (k : C709Record) (d w : Nat) (half : Bool) (a : Rows) : Rows where
  c0 := tabulate w fun x =>
    let i := if half then x / 2 else x
    (c709 d k (nth a.c0 x) (nth a.c1 i) (nth a.c2 i)).1
  c1 := tabulate (if half then w / 2 else w) fun i => (c709 d k 0 (nth a.c1 i) (nth a.c2 i)).2.1
  c2 := tabulate (if half then w / 2 else w) fun i => (c709 d k 0 (nth a.c1 i) (nth a.c2 i)).2.2

/-- The row form of a pixel operation (R95). -/
def matrixRow (f : Int → Int → Int → Int × Int × Int) (w : Nat) (a : Rows) : Rows where
  c0 := tabulate w fun x => (f (nth a.c0 x) (nth a.c1 x) (nth a.c2 x)).1
  c1 := tabulate w fun x => (f (nth a.c0 x) (nth a.c1 x) (nth a.c2 x)).2.1
  c2 := tabulate w fun x => (f (nth a.c0 x) (nth a.c1 x) (nth a.c2 x)).2.2

/-- Apply an operation to the two chroma arrays. -/
def onChroma (f : List Int → List Int) (a : Rows) : Rows := { a with c1 := f a.c1, c2 := f a.c2 }

/-- The structure of the input side. -/
def Job.inner (j : Job) : Structure := match j.dir with
  | .pack => j.fam
  | .unpack => j.kind

/-- The structure of the output side. -/
def Job.outer (j : Job) : Structure := match j.dir with
  | .pack => j.kind
  | .unpack => j.fam

/-- Step 1 of `Convert`: the correction, where the input is YUV and the flag is set (R203, R96). -/
def convertCorrect (k : C709Record) (j : Job) (a : Rows) : Rows :=
  if j.inner.isYuv && j.q.c709 then correctRow k j.dw j.w j.inner.halfChroma a else a

/-- Step 2 of `Convert`: chroma to 4:4:4 (R203, R104). -/
def convertUp (j : Job) (a : Rows) : Rows :=
  if j.inner = .yuv422 && (!j.outer.isYuv || j.outer = .yuv444) then
    onChroma (fun c => if j.q.ups then crsUp c (j.w / 2) else crsRep c (j.w / 2)) a
  else a

/-- Step 3 of `Convert`: the matrix, where the two sides differ in colour model (R203, R95). -/
def convertMatrix (j : Job) (a : Rows) : Rows :=
  if j.inner.isYuv && !j.outer.isYuv then matrixRow (y2r j.dw j.e.y2r) j.w a
  else if !j.inner.isYuv && j.outer.isYuv then matrixRow (r2y j.dw j.e.r2y) j.w a
  else a

/-- Step 4 of `Convert`: chroma to 4:2:2 (R203, R104). -/
def convertDown (j : Job) (a : Rows) : Rows :=
  if j.outer.halfChroma && (!j.inner.isYuv || j.inner = .yuv444) then onChroma (fun c => crsDown c (j.w / 2)) a else a

/-- `Convert(in, out, a)` (R203). -/
def convert (k : C709Record) (j : Job) (a : Rows) : Rows :=
  convertDown j (convertMatrix j (convertUp j (convertCorrect k j a)))

/-! ## Exit stage -/

/-- Whether row `r` of the output has chroma samples (R103): all rows, but in a 4:2:0 output the odd rows only. -/
def Job.chromaRowKept (j : Job) (r : Nat) : Bool := j.outer ≠ .yuv420 || vdecKeeps r

/-- The output samples of pixel `x` of row `r` in draw order (R114 items 3 to 5): luma, and the chroma pair at even `x`
where chroma is halved; or the three colours and the alpha. -/
def pixelItems (t : Act) (j : Job) (r : Nat) (b : Rows) (ain : List Int) (x : Nat) : List Item :=
  let it (ch : Chan) (v : Int) : Item := ⟨ch, v, j.dw, j.dout⟩
  let cs := j.outer.colours
  if j.outer.halfChroma then
    it cs.1 (nth b.c0 x)
      :: (if x % 2 = 0 && j.chromaRowKept r then [it cs.2.1 (nth b.c1 (x / 2)), it cs.2.2 (nth b.c2 (x / 2))] else [])
  else
    [it cs.1 (nth b.c0 x), it cs.2.1 (nth b.c1 x), it cs.2.2 (nth b.c2 x)]
      ++ (if j.alphaOut then [alphaItem t j (nth ain x)] else [])

/-- The exit stage of a row (R194 step 4, R195 step 3), with the draws it makes. -/
def exitRow (t : Act) (j : Job) (r : Nat) (b : Rows) (ain : List Int) (ds : Draws) : Arrays × Draws :=
  let os := exitStage j.mode ((List.range j.w).flatMap (pixelItems t j r b ain)) ds
  let cs := j.outer.colours
  (⟨channelOf cs.1 os.1, channelOf cs.2.1 os.1, channelOf cs.2.2 os.1, channelOf .a os.1⟩, os.2)

/-! ## Fill -/

/-- The fill value of a colour channel at depth `Dext` (R133): luma 16, chroma 128, RGB 0. -/
def fillValue (j : Job) (luma : Bool) : Nat :=
  if j.kind.isYuv then (if luma then 16 else 128) * 2 ^ (j.dext - 8) else 0

/-- The fill step of a PACK row (R194 step 5, R133). -/
def fillRow (j : Job) (r : Nat) (o : Arrays) : Arrays :=
  let nc := if !j.kind.halfChroma then j.fw - j.w else if j.chromaRowKept r then j.fw / 2 - j.w / 2 else 0
  { c0 := o.c0 ++ List.replicate (j.fw - j.w) (fillValue j true)
    c1 := o.c1 ++ List.replicate nc (fillValue j false)
    c2 := o.c2 ++ List.replicate nc (fillValue j false)
    a := if j.alphaOut then o.a ++ List.replicate (j.fw - j.w) 0 else o.a }

/-! ## Rows -/

/-- `Place_f` of a format (R130): the writes of one external row. -/
abbrev Place := Job → Nat → Arrays → List Wr

/-- `Extract_f` of a format (R130), given `MemRead`: the fields of one external row, or nothing where a read failed. -/
abbrev Extract := (Int → Nat → Option Nat) → Job → Nat → Option Arrays

/-- Load one planar row of a channel (R194 step 1). -/
def loadRow (s : State) (j : Job) (r : Nat) (ch : Chan) : Option (List Int) :=
  allSome (tabulate (ncols j.fam j.w ch) fun x => loadPlanar s.platform s.mem j ch r x)

/-- The planar rows of the family: the three colours, and the alpha of an RGBA family (R194 step 1, R199). -/
def loadRows (s : State) (j : Job) (r : Nat) : Option (Rows × List Int) :=
  let cs := j.fam.colours
  match loadRow s j r cs.1, loadRow s j r cs.2.1, loadRow s j r cs.2.2,
    (if j.fam = .rgba then loadRow s j r .a else some []) with
  | some c0, some c1, some c2, some a => some (⟨c0, c1, c2⟩, a)
  | _, _, _, _ => none

/-- Enter the working depth (R120). -/
def enterRows (j : Job) (a : Rows) : Rows :=
  ⟨a.c0.map (toWorking j), a.c1.map (toWorking j), a.c2.map (toWorking j)⟩

/-- What a row step computes: the writes it will make and the draws it has made; nothing where a read failed. -/
abbrev RowResult := Option (List Wr × Draws)

/-- The draws a row step starts from. -/
def State.draws (s : State) : Draws := ⟨s.dstate, s.freeCtr⟩

/-- `PackRow(r)` (R194). -/
def packRow (place : Place) (s : State) (j : Job) (r : Nat) : RowResult :=
  (loadRows s j r).map fun x =>
    let out := exitRow s.act j r (convert s.cmt.c709 j (enterRows j x.1)) x.2 s.draws
    (place j r (fillRow j r out.1), out.2)

/-- The fields of an external row as integers. -/
def intRows (a : Arrays) : Rows :=
  ⟨a.c0.map Int.ofNat, a.c1.map Int.ofNat, a.c2.map Int.ofNat⟩

/-- The stores of one planar channel (R195 step 4). -/
def storeRow (j : Job) (r : Nat) (ch : Chan) (vs : List Nat) : List Wr :=
  tabulate (ncols j.fam j.w ch) fun x => storePlanar j ch r x (nth vs x)

/-- The stores of a planar row of the family (R195 step 4). -/
def storeRows (j : Job) (r : Nat) (o : Arrays) : List Wr :=
  let cs := j.fam.colours
  storeRow j r cs.1 o.c0 ++ storeRow j r cs.2.1 o.c1 ++ storeRow j r cs.2.2 o.c2
    ++ (if j.fam = .rgba then storeRow j r .a o.a else [])

/-- `UnpackRow(r)` (R195). -/
def unpackRow (extract : Extract) (s : State) (j : Job) (r : Nat) : RowResult :=
  (extract (memRead s.platform s.mem) j r).map fun x =>
    let out := exitRow s.act j r (convert s.cmt.c709 j (enterRows j (intRows x))) (x.a.map Int.ofNat) s.draws
    (storeRows j r out.1, out.2)

/-! ## The step on a latched request -/

/-- At the end of a request whose footprints overlap (R54, U1) or during which duty 3 of R236 was broken (U14), every byte
of the write footprint is unspecified (log 9); else the state stands as it is. -/
def settle (j : Job) (s : State) : State :=
  if overlaps j || s.tainted then unspecify (writeFootprint j) s else s

/-- The row step proper (R193): the writes and draws of row `ROW`, then `ROW + 1`; or a bus error (R215). -/
def rowStep (row : State → Job → Nat → RowResult) (j : Job) (s : State) : State :=
  match row s j s.row.toNat with
  | none => settle j (takeReadError s)
  | some (ws, ds) =>
    let s1 := { s with dstate := ds.dstate, freeCtr := ds.ctr }
    if writesOk s.platform ws then
      { s1 with mem := storeBytes s.mem (ws.flatMap Wr.bytes), row := s.row + 1 }
    else settle j (takeWriteError ws s1)

/-- The engine's next step on the latched request of direction `d`, format `f` and fields `q` (R193): a row while
`ROW < ROI.H`, else completion (R196). An idle engine has no request and nothing happens. A latched request that is not
valid is unreachable (R191: it never starts); the step records its error (log 15). -/
def requestStep (row : State → Job → Nat → RowResult) (d : Dir) (f : Fmt) (q : ReqFields) (s : State) :
    Host.Outcome State Fault Refusal :=
  if !s.busy then .next s
  else match prepare s.cmt d f q s.cur with
    | .error e => .next (takeConfigError e s)
    | .ok j =>
      if s.row.toNat < j.h then .next (rowStep row j s)
      else .next (settle j (complete s))

/-- The step on a PACK request. -/
def packStep (f : Fmt) (place : Place) (q : ReqFields) (s : State) : Host.Outcome State Fault Refusal :=
  requestStep (packRow place) .pack f q s

/-- The step on an UNPACK request. -/
def unpackStep (f : Fmt) (extract : Extract) (q : ReqFields) (s : State) : Host.Outcome State Fault Refusal :=
  requestStep (unpackRow extract) .unpack f q s

/-- A request whose format is recognised and has no entry for its direction (R143, R145, R213): it always ends with the
error `Validate` finds, `ERR_COMBO` where nothing before it applies. -/
def noEntryStep (d : Dir) (f : Fmt) (q : ReqFields) (s : State) : Host.Outcome State Fault Refusal :=
  if !s.busy then .next s
  else .next (takeConfigError ((validate { s.cur with reqOp := reqWord d f q }).getD .combo) s)

/-! ## START -/

/-- START is accepted (R190): the status is cleared, the registers latched, the request validated; where it is valid the
engine becomes busy. A launch over memory with read side effects is refused (R49, U4; log 3). -/
def acceptStart (s : State) : Host.Outcome State Fault Refusal :=
  let s1 := { clearStatus s with cur := s.regs, tainted := false }
  match prepareLatched s.cmt s.regs with
  | .error e => .next (takeConfigError e s1)
  | .ok j =>
    if s.platform.devices.any (footprintTouches j) then .refused .sideEffectMemory
    else .next { s1 with busy := true }

end Sys2Proof.Machine
end

