-- ==== Sys2Proof/Machine/Commands.lean ====
section
/-!
DEFINITION. The three host commands (10_state.md R12, 30_encoding.md R72). A `CTRL` word does its commands in the order
SRST, CLR, START; the stored bit `IE` takes the written value on every `CTRL` write when not busy, after the reset of an
SRST in the same word (70_reset_and_hazards.md R231). While busy the whole write is ignored (R202).
-/

namespace Sys2Proof.Machine

/-- The `SRST` part of a `CTRL` write (R231). -/
def srstPart (on : Bool) (s : State) : State := if on then resetRegisters s else s

/-- The `CLR` part of a `CTRL` write (R218). -/
def clrPart (on : Bool) (s : State) : State := if on then clearStatus s else s

/-- The `IE` part of a `CTRL` write (R12). -/
def iePart (ie : Bool) (s : State) : State := { s with ie := ie }

/-- `START` (R190), after the other parts of the same word. -/
def execStart (withSrst withClr ie : Bool) (s : State) : Host.Outcome State Fault Refusal :=
  if s.busy then .next s
  else acceptStart (iePart ie (clrPart withClr (srstPart withSrst s)))

/-- `CLR` (R218), after an `SRST` of the same word. -/
def execClr (withSrst ie : Bool) (s : State) : Host.Outcome State Fault Refusal :=
  if s.busy then .next s
  else .next (iePart ie (clearStatus (srstPart withSrst s)))

/-- `SRST` (R231). -/
def execSrst (ie : Bool) (s : State) : Host.Outcome State Fault Refusal :=
  if s.busy then .next s
  else .next (iePart ie (resetRegisters s))

end Sys2Proof.Machine
end

