-- ==== Sys2Proof/Machine/Codec.lean ====
section
/-!
DEFINITION. What the placement and extraction rules of the external layouts share (44_format_codecs_yuv.md R130,
45_format_codecs_rgb.md R186): the 10:10:10 word, the byte swap, and the collecting of read fields.
-/

namespace Sys2Proof.Machine

/-- Three 10-bit samples at bit positions 0, 10 and 20 (R138, and the table before R172). -/
def word10 (a b c : Nat) : Nat := a ||| b <<< 10 ||| c <<< 20

/-- `bswap32(w)` (R186): swap the bytes of each 16-bit half, then the halves. -/
def bswap32 (w : Nat) : Nat :=
  let t := (w &&& 0x00FF00FF) <<< 8 ||| w >>> 8 &&& 0x00FF00FF
  (t <<< 16 ||| t >>> 16) &&& 0xFFFFFFFF

/-- The arrays of a format without alpha, where every read of them succeeded. -/
def arrays3 (x y z : Option (List Nat)) : Option Arrays :=
  match x, y, z with
  | some x, some y, some z => some ⟨x, y, z, []⟩
  | _, _, _ => none

/-- The arrays of a format with alpha, where every read of them succeeded. -/
def arrays4 (x y z a : Option (List Nat)) : Option Arrays :=
  match x, y, z, a with
  | some x, some y, some z, some a => some ⟨x, y, z, a⟩
  | _, _, _, _ => none

end Sys2Proof.Machine
end

