-- ==== Sys2Proof/Machine/PackRgb.lean ====
section
/-!
DEFINITION. The meanings of `PACK.<fmt>` for the RGB layouts (45_format_codecs_rgb.md): each format's placement rule, and the
engine's step on a request of it (46_row_driver.md R193, R194).
-/

namespace Sys2Proof.Machine

/-- `Place_RGB24` (R160). -/
def placeRgb24 (j : Job) (r : Nat) (o : Arrays) : List Wr :=
  let e0 := extRow j 0 r
  (List.range j.fw).flatMap fun (x : Nat) =>
    [⟨e0 + 3 * x + 0, 1, nth o.c2 x⟩, ⟨e0 + 3 * x + 1, 1, nth o.c1 x⟩, ⟨e0 + 3 * x + 2, 1, nth o.c0 x⟩]

/-- `PACK.RGB24` (R160). -/
def execPackRgb24 (q : ReqFields) (s : State) : Host.Outcome State Fault Refusal := packStep .rgb24 placeRgb24 q s

/-- `Place_RGB32` (R162): the fourth byte is opaque in the image and 0 in the fill. -/
def placeRgb32 (j : Job) (r : Nat) (o : Arrays) : List Wr :=
  let e0 := extRow j 0 r
  (List.range j.fw).flatMap fun (x : Nat) =>
    [⟨e0 + 4 * x + 0, 1, nth o.c2 x⟩, ⟨e0 + 4 * x + 1, 1, nth o.c1 x⟩, ⟨e0 + 4 * x + 2, 1, nth o.c0 x⟩,
     ⟨e0 + 4 * x + 3, 1, if x < j.w then 0xFF else 0x00⟩]

/-- `PACK.RGB32` (R162). -/
def execPackRgb32 (q : ReqFields) (s : State) : Host.Outcome State Fault Refusal := packStep .rgb32 placeRgb32 q s

/-- `Place_RGBA32` (R164). -/
def placeRgba32 (j : Job) (r : Nat) (o : Arrays) : List Wr :=
  let e0 := extRow j 0 r
  (List.range j.fw).flatMap fun (x : Nat) =>
    [⟨e0 + 4 * x + 0, 1, nth o.c2 x⟩, ⟨e0 + 4 * x + 1, 1, nth o.c1 x⟩, ⟨e0 + 4 * x + 2, 1, nth o.c0 x⟩, ⟨e0 + 4 * x + 3, 1, nth o.a x⟩]

/-- `PACK.RGBA32` (R164). -/
def execPackRgba32 (q : ReqFields) (s : State) : Host.Outcome State Fault Refusal := packStep .rgba32 placeRgba32 q s

/-- `Place_RGB48` (R166). -/
def placeRgb48 (j : Job) (r : Nat) (o : Arrays) : List Wr :=
  let e0 := extRow j 0 r
  (List.range j.fw).flatMap fun (x : Nat) =>
    [⟨e0 + 6 * x + 0, 2, nth o.c0 x⟩, ⟨e0 + 6 * x + 2, 2, nth o.c1 x⟩, ⟨e0 + 6 * x + 4, 2, nth o.c2 x⟩]

/-- `PACK.RGB48` (R166). -/
def execPackRgb48 (q : ReqFields) (s : State) : Host.Outcome State Fault Refusal := packStep .rgb48 placeRgb48 q s

/-- `Place_RGBA64` (R168). -/
def placeRgba64 (j : Job) (r : Nat) (o : Arrays) : List Wr :=
  let e0 := extRow j 0 r
  (List.range j.fw).flatMap fun (x : Nat) =>
    [⟨e0 + 8 * x + 0, 2, nth o.c0 x⟩, ⟨e0 + 8 * x + 2, 2, nth o.c1 x⟩, ⟨e0 + 8 * x + 4, 2, nth o.c2 x⟩, ⟨e0 + 8 * x + 6, 2, nth o.a x⟩]

/-- `PACK.RGBA64` (R168). -/
def execPackRgba64 (q : ReqFields) (s : State) : Host.Outcome State Fault Refusal := packStep .rgba64 placeRgba64 q s

/-- `Place_BGRA64` (R170). -/
def placeBgra64 (j : Job) (r : Nat) (o : Arrays) : List Wr :=
  let e0 := extRow j 0 r
  (List.range j.fw).flatMap fun (x : Nat) =>
    [⟨e0 + 8 * x + 0, 2, nth o.c2 x⟩, ⟨e0 + 8 * x + 2, 2, nth o.c1 x⟩, ⟨e0 + 8 * x + 4, 2, nth o.c0 x⟩, ⟨e0 + 8 * x + 6, 2, nth o.a x⟩]

/-- `PACK.BGRA64` (R170). -/
def execPackBgra64 (q : ReqFields) (s : State) : Host.Outcome State Fault Refusal := packStep .bgra64 placeBgra64 q s

/-- `Place_RG30` (R172). -/
def placeRg30 (j : Job) (r : Nat) (o : Arrays) : List Wr :=
  let e0 := extRow j 0 r
  tabulate j.fw fun (x : Nat) => ⟨e0 + 4 * x, 4, word10 (nth o.c0 x) (nth o.c1 x) (nth o.c2 x)⟩

/-- `PACK.RG30` (R172). -/
def execPackRg30 (q : ReqFields) (s : State) : Host.Outcome State Fault Refusal := packStep .rg30 placeRg30 q s

/-- `Place_AR10` (R174). -/
def placeAr10 (j : Job) (r : Nat) (o : Arrays) : List Wr :=
  let e0 := extRow j 0 r
  tabulate j.fw fun (x : Nat) => ⟨e0 + 4 * x, 4, word10 (nth o.c2 x) (nth o.c1 x) (nth o.c0 x)⟩

/-- `PACK.AR10` (R174). -/
def execPackAr10 (q : ReqFields) (s : State) : Host.Outcome State Fault Refusal := packStep .ar10 placeAr10 q s

/-- `Place_AB10` (R176). -/
def placeAb10 (j : Job) (r : Nat) (o : Arrays) : List Wr :=
  let e0 := extRow j 0 r
  tabulate j.fw fun (x : Nat) => ⟨e0 + 4 * x, 4, word10 (nth o.c0 x) (nth o.c1 x) (nth o.c2 x)⟩

/-- `PACK.AB10` (R176). -/
def execPackAb10 (q : ReqFields) (s : State) : Host.Outcome State Fault Refusal := packStep .ab10 placeAb10 q s

/-- `Place_R210` (R178). -/
def placeR210 (j : Job) (r : Nat) (o : Arrays) : List Wr :=
  let e0 := extRow j 0 r
  tabulate j.fw fun (x : Nat) => ⟨e0 + 4 * x, 4, bswap32 (word10 (nth o.c2 x) (nth o.c1 x) (nth o.c0 x))⟩

/-- `PACK.R210` (R178). -/
def execPackR210 (q : ReqFields) (s : State) : Host.Outcome State Fault Refusal := packStep .r210 placeR210 q s

/-- `Place_DPX0` (R180). -/
def placeDpx0 (j : Job) (r : Nat) (o : Arrays) : List Wr :=
  let e0 := extRow j 0 r
  tabulate j.fw fun (x : Nat) => ⟨e0 + 4 * x, 4, bswap32 (nth o.c0 x <<< 22 ||| nth o.c1 x <<< 12 ||| nth o.c2 x <<< 2)⟩

/-- `PACK.DPX0` (R180). -/
def execPackDpx0 (q : ReqFields) (s : State) : Host.Outcome State Fault Refusal := packStep .dpx0 placeDpx0 q s

/-- `Place_RGB8P` (R182). -/
def placeRgb8p (j : Job) (r : Nat) (o : Arrays) : List Wr :=
  let e0 := extRow j 0 r
  (List.range (j.fw / 8)).flatMap fun (g : Nat) =>
    (List.range 8).flatMap fun (i : Nat) =>
      [⟨e0 + 48 * g + 0 + 2 * i, 2, nth o.c0 (8 * g + i)⟩,
       ⟨e0 + 48 * g + 16 + 2 * i, 2, nth o.c1 (8 * g + i)⟩,
       ⟨e0 + 48 * g + 32 + 2 * i, 2, nth o.c2 (8 * g + i)⟩]

/-- `PACK.RGB8P` (R182). -/
def execPackRgb8p (q : ReqFields) (s : State) : Host.Outcome State Fault Refusal := packStep .rgb8p placeRgb8p q s

/-- `Place_RGBA8P` (R184). -/
def placeRgba8p (j : Job) (r : Nat) (o : Arrays) : List Wr :=
  let e0 := extRow j 0 r
  (List.range (j.fw / 8)).flatMap fun (g : Nat) =>
    (List.range 8).flatMap fun (i : Nat) =>
      [⟨e0 + 64 * g + 0 + 2 * i, 2, nth o.c0 (8 * g + i)⟩,
       ⟨e0 + 64 * g + 16 + 2 * i, 2, nth o.c1 (8 * g + i)⟩,
       ⟨e0 + 64 * g + 32 + 2 * i, 2, nth o.c2 (8 * g + i)⟩,
       ⟨e0 + 64 * g + 48 + 2 * i, 2, nth o.a (8 * g + i)⟩]

/-- `PACK.RGBA8P` (R184). -/
def execPackRgba8p (q : ReqFields) (s : State) : Host.Outcome State Fault Refusal := packStep .rgba8p placeRgba8p q s

end Sys2Proof.Machine
end

