-- ==== Sys2Proof/Machine/PackYuv.lean ====
section
/-!
DEFINITION. The meanings of `PACK.<fmt>` for the YUV layouts (44_format_codecs_yuv.md): each format's placement rule, and the
engine's step on a request of it (46_row_driver.md R193, R194).
-/

namespace Sys2Proof.Machine

/-- `Place_YUYV` (R134). -/
def placeYuyv (j : Job) (r : Nat) (o : Arrays) : List Wr :=
  let e0 := extRow j 0 r
  (List.range (j.fw / 2)).flatMap fun (k : Nat) =>
    [⟨e0 + 4 * k + 0, 1, nth o.c0 (2 * k)⟩,
     ⟨e0 + 4 * k + 1, 1, nth o.c1 k⟩,
     ⟨e0 + 4 * k + 2, 1, nth o.c0 (2 * k + 1)⟩,
     ⟨e0 + 4 * k + 3, 1, nth o.c2 k⟩]

/-- `PACK.YUYV` (R134). -/
def execPackYuyv (q : ReqFields) (s : State) : Host.Outcome State Fault Refusal := packStep .yuyv placeYuyv q s

/-- `Place_UYVY` (R136). -/
def placeUyvy (j : Job) (r : Nat) (o : Arrays) : List Wr :=
  let e0 := extRow j 0 r
  (List.range (j.fw / 2)).flatMap fun (k : Nat) =>
    [⟨e0 + 4 * k + 0, 1, nth o.c1 k⟩,
     ⟨e0 + 4 * k + 1, 1, nth o.c0 (2 * k)⟩,
     ⟨e0 + 4 * k + 2, 1, nth o.c2 k⟩,
     ⟨e0 + 4 * k + 3, 1, nth o.c0 (2 * k + 1)⟩]

/-- `PACK.UYVY` (R136). -/
def execPackUyvy (q : ReqFields) (s : State) : Host.Outcome State Fault Refusal := packStep .uyvy placeUyvy q s

/-- `Place_V210` (R138). -/
def placeV210 (j : Job) (r : Nat) (o : Arrays) : List Wr :=
  let e0 := extRow j 0 r
  (List.range (j.fw / 6)).flatMap fun (g : Nat) =>
    [⟨e0 + 16 * g + 0, 4, word10 (nth o.c1 (3 * g)) (nth o.c0 (6 * g)) (nth o.c2 (3 * g))⟩,
     ⟨e0 + 16 * g + 4, 4, word10 (nth o.c0 (6 * g + 1)) (nth o.c1 (3 * g + 1)) (nth o.c0 (6 * g + 2))⟩,
     ⟨e0 + 16 * g + 8, 4, word10 (nth o.c2 (3 * g + 1)) (nth o.c0 (6 * g + 3)) (nth o.c1 (3 * g + 2))⟩,
     ⟨e0 + 16 * g + 12, 4, word10 (nth o.c0 (6 * g + 4)) (nth o.c2 (3 * g + 2)) (nth o.c0 (6 * g + 5))⟩]

/-- `PACK.V210` (R138). -/
def execPackV210 (q : ReqFields) (s : State) : Host.Outcome State Fault Refusal := packStep .v210 placeV210 q s

/-- `Place_YU64` (R140). -/
def placeYu64 (j : Job) (r : Nat) (o : Arrays) : List Wr :=
  let e0 := extRow j 0 r
  (List.range (j.fw / 2)).flatMap fun (k : Nat) =>
    [⟨e0 + 8 * k + 0, 2, nth o.c0 (2 * k)⟩,
     ⟨e0 + 8 * k + 2, 2, nth o.c1 k⟩,
     ⟨e0 + 8 * k + 4, 2, nth o.c0 (2 * k + 1)⟩,
     ⟨e0 + 8 * k + 6, 2, nth o.c2 k⟩]

/-- `PACK.YU64` (R140). -/
def execPackYu64 (q : ReqFields) (s : State) : Host.Outcome State Fault Refusal := packStep .yu64 placeYu64 q s

/-- `Place_NV12` (R142): luma in buffer 0; in odd rows the interleaved chroma in buffer 1. -/
def placeNv12 (j : Job) (r : Nat) (o : Arrays) : List Wr :=
  let e0 := extRow j 0 r
  let c1 := chromaRow j 1 r
  tabulate j.fw (fun (x : Nat) => ⟨e0 + x, 1, nth o.c0 x⟩)
    ++ (if vdecKeeps r then
      (List.range (j.fw / 2)).flatMap fun (k : Nat) => [⟨c1 + 2 * k, 1, nth o.c1 k⟩, ⟨c1 + 2 * k + 1, 1, nth o.c2 k⟩]
    else [])

/-- `PACK.NV12` (R142). -/
def execPackNv12 (q : ReqFields) (s : State) : Host.Outcome State Fault Refusal := packStep .nv12 placeNv12 q s

/-- `Place_YV12` (R144): luma in buffer 0; in odd rows V in buffer 1 and U in buffer 2. -/
def placeYv12 (j : Job) (r : Nat) (o : Arrays) : List Wr :=
  let e0 := extRow j 0 r
  let c1 := chromaRow j 1 r
  let c2 := chromaRow j 2 r
  tabulate j.fw (fun (x : Nat) => ⟨e0 + x, 1, nth o.c0 x⟩)
    ++ (if vdecKeeps r then
      (List.range (j.fw / 2)).flatMap fun (k : Nat) => [⟨c1 + k, 1, nth o.c2 k⟩, ⟨c2 + k, 1, nth o.c1 k⟩]
    else [])

/-- `PACK.YV12` (R144). -/
def execPackYv12 (q : ReqFields) (s : State) : Host.Outcome State Fault Refusal := packStep .yv12 placeYv12 q s

/-- `Place_AVID_2_8` (R146): the two low bits of four samples in buffer 0, the eight high bits in buffer 1. -/
def placeAvid28 (j : Job) (r : Nat) (o : Arrays) : List Wr :=
  let e0 := extRow j 0 r
  let e1 := extRow j 1 r
  (List.range (j.fw / 2)).flatMap fun (k : Nat) =>
    let q0 := nth o.c1 k
    let q1 := nth o.c0 (2 * k)
    let q2 := nth o.c2 k
    let q3 := nth o.c0 (2 * k + 1)
    [⟨e0 + k, 1, q0 % 4 ||| (q1 % 4) <<< 2 ||| (q2 % 4) <<< 4 ||| (q3 % 4) <<< 6⟩,
     ⟨e1 + 4 * k + 0, 1, q0 >>> 2⟩, ⟨e1 + 4 * k + 1, 1, q1 >>> 2⟩,
     ⟨e1 + 4 * k + 2, 1, q2 >>> 2⟩, ⟨e1 + 4 * k + 3, 1, q3 >>> 2⟩]

/-- `PACK.AVID_2_8` (R146). -/
def execPackAvid28 (q : ReqFields) (s : State) : Host.Outcome State Fault Refusal := packStep .avid28 placeAvid28 q s

/-- `Place_AVID_2_14` (R148). -/
def placeAvid214 (j : Job) (r : Nat) (o : Arrays) : List Wr :=
  let e0 := extRow j 0 r
  (List.range (j.fw / 2)).flatMap fun (k : Nat) =>
    [⟨e0 + 8 * k + 0, 2, nth o.c1 k⟩,
     ⟨e0 + 8 * k + 2, 2, nth o.c0 (2 * k)⟩,
     ⟨e0 + 8 * k + 4, 2, nth o.c2 k⟩,
     ⟨e0 + 8 * k + 6, 2, nth o.c0 (2 * k + 1)⟩]

/-- `PACK.AVID_2_14` (R148). -/
def execPackAvid214 (q : ReqFields) (s : State) : Host.Outcome State Fault Refusal := packStep .avid214 placeAvid214 q s

/-- `Place_AVID_10_6` (R150). -/
def placeAvid106 (j : Job) (r : Nat) (o : Arrays) : List Wr :=
  let e0 := extRow j 0 r
  (List.range (j.fw / 2)).flatMap fun (k : Nat) =>
    [⟨e0 + 8 * k + 0, 2, nth o.c1 k⟩,
     ⟨e0 + 8 * k + 2, 2, nth o.c0 (2 * k)⟩,
     ⟨e0 + 8 * k + 4, 2, nth o.c2 k⟩,
     ⟨e0 + 8 * k + 6, 2, nth o.c0 (2 * k + 1)⟩]

/-- `PACK.AVID_10_6` (R150). -/
def execPackAvid106 (q : ReqFields) (s : State) : Host.Outcome State Fault Refusal := packStep .avid106 placeAvid106 q s

end Sys2Proof.Machine
end

