-- ==== Sys2Proof/Machine/UnpackRgb.lean ====
section
/-!
DEFINITION. The meanings of `UNPACK.<fmt>` for the RGB layouts (45_format_codecs_rgb.md): each format's extraction rule, and the
engine's step on a request of it (46_row_driver.md R193, R195).
-/

namespace Sys2Proof.Machine

/-- `Extract_RGB24` (R161). -/
def extractRgb24 (rd : Int → Nat → Option Nat) (j : Job) (r : Nat) : Option Arrays :=
  let e0 := extRow j 0 r
  let red := allSome (tabulate j.w fun (x : Nat) => rd (e0 + 3 * x + 2) 1)
  let green := allSome (tabulate j.w fun (x : Nat) => rd (e0 + 3 * x + 1) 1)
  let blue := allSome (tabulate j.w fun (x : Nat) => rd (e0 + 3 * x + 0) 1)
  arrays3 red green blue

/-- `UNPACK.RGB24` (R161). -/
def execUnpackRgb24 (q : ReqFields) (s : State) : Host.Outcome State Fault Refusal := unpackStep .rgb24 extractRgb24 q s

/-- `Extract_RGB32` (R163): the fourth byte is read (R199) and not used. -/
def extractRgb32 (rd : Int → Nat → Option Nat) (j : Job) (r : Nat) : Option Arrays :=
  let e0 := extRow j 0 r
  let red := allSome (tabulate j.w fun (x : Nat) => rd (e0 + 4 * x + 2) 1)
  let green := allSome (tabulate j.w fun (x : Nat) => rd (e0 + 4 * x + 1) 1)
  let blue := allSome (tabulate j.w fun (x : Nat) => rd (e0 + 4 * x + 0) 1)
  let spare := allSome (tabulate j.w fun (x : Nat) => rd (e0 + 4 * x + 3) 1)
  (arrays4 red green blue spare).map fun o => { o with a := [] }

/-- `UNPACK.RGB32` (R163). -/
def execUnpackRgb32 (q : ReqFields) (s : State) : Host.Outcome State Fault Refusal := unpackStep .rgb32 extractRgb32 q s

/-- `Extract_RGBA32` (R165). -/
def extractRgba32 (rd : Int → Nat → Option Nat) (j : Job) (r : Nat) : Option Arrays :=
  let e0 := extRow j 0 r
  let red := allSome (tabulate j.w fun (x : Nat) => rd (e0 + 4 * x + 2) 1)
  let green := allSome (tabulate j.w fun (x : Nat) => rd (e0 + 4 * x + 1) 1)
  let blue := allSome (tabulate j.w fun (x : Nat) => rd (e0 + 4 * x + 0) 1)
  let alpha := allSome (tabulate j.w fun (x : Nat) => rd (e0 + 4 * x + 3) 1)
  arrays4 red green blue alpha

/-- `UNPACK.RGBA32` (R165). -/
def execUnpackRgba32 (q : ReqFields) (s : State) : Host.Outcome State Fault Refusal := unpackStep .rgba32 extractRgba32 q s

/-- `Extract_RGB48` (R167). -/
def extractRgb48 (rd : Int → Nat → Option Nat) (j : Job) (r : Nat) : Option Arrays :=
  let e0 := extRow j 0 r
  let red := allSome (tabulate j.w fun (x : Nat) => rd (e0 + 6 * x + 0) 2)
  let green := allSome (tabulate j.w fun (x : Nat) => rd (e0 + 6 * x + 2) 2)
  let blue := allSome (tabulate j.w fun (x : Nat) => rd (e0 + 6 * x + 4) 2)
  arrays3 red green blue

/-- `UNPACK.RGB48` (R167). -/
def execUnpackRgb48 (q : ReqFields) (s : State) : Host.Outcome State Fault Refusal := unpackStep .rgb48 extractRgb48 q s

/-- `Extract_RGBA64` (R169). -/
def extractRgba64 (rd : Int → Nat → Option Nat) (j : Job) (r : Nat) : Option Arrays :=
  let e0 := extRow j 0 r
  let red := allSome (tabulate j.w fun (x : Nat) => rd (e0 + 8 * x + 0) 2)
  let green := allSome (tabulate j.w fun (x : Nat) => rd (e0 + 8 * x + 2) 2)
  let blue := allSome (tabulate j.w fun (x : Nat) => rd (e0 + 8 * x + 4) 2)
  let alpha := allSome (tabulate j.w fun (x : Nat) => rd (e0 + 8 * x + 6) 2)
  arrays4 red green blue alpha

/-- `UNPACK.RGBA64` (R169). -/
def execUnpackRgba64 (q : ReqFields) (s : State) : Host.Outcome State Fault Refusal := unpackStep .rgba64 extractRgba64 q s

/-- `Extract_BGRA64` (R171). -/
def extractBgra64 (rd : Int → Nat → Option Nat) (j : Job) (r : Nat) : Option Arrays :=
  let e0 := extRow j 0 r
  let red := allSome (tabulate j.w fun (x : Nat) => rd (e0 + 8 * x + 4) 2)
  let green := allSome (tabulate j.w fun (x : Nat) => rd (e0 + 8 * x + 2) 2)
  let blue := allSome (tabulate j.w fun (x : Nat) => rd (e0 + 8 * x + 0) 2)
  let alpha := allSome (tabulate j.w fun (x : Nat) => rd (e0 + 8 * x + 6) 2)
  arrays4 red green blue alpha

/-- `UNPACK.BGRA64` (R171). -/
def execUnpackBgra64 (q : ReqFields) (s : State) : Host.Outcome State Fault Refusal := unpackStep .bgra64 extractBgra64 q s

/-- `Extract_RG30` (R173). -/
def extractRg30 (rd : Int → Nat → Option Nat) (j : Job) (r : Nat) : Option Arrays :=
  let e0 := extRow j 0 r
  (allSome (tabulate j.w fun (x : Nat) => rd (e0 + 4 * x) 4)).map fun ws =>
    let f (lo : Nat) : List Nat := ws.map fun w => w >>> lo % 2 ^ 10
    { c0 := f 0, c1 := f 10, c2 := f 20, a := [] }

/-- `UNPACK.RG30` (R173). -/
def execUnpackRg30 (q : ReqFields) (s : State) : Host.Outcome State Fault Refusal := unpackStep .rg30 extractRg30 q s

/-- `Extract_AR10` (R175). -/
def extractAr10 (rd : Int → Nat → Option Nat) (j : Job) (r : Nat) : Option Arrays :=
  let e0 := extRow j 0 r
  (allSome (tabulate j.w fun (x : Nat) => rd (e0 + 4 * x) 4)).map fun ws =>
    let f (lo : Nat) : List Nat := ws.map fun w => w >>> lo % 2 ^ 10
    { c0 := f 20, c1 := f 10, c2 := f 0, a := [] }

/-- `UNPACK.AR10` (R175). -/
def execUnpackAr10 (q : ReqFields) (s : State) : Host.Outcome State Fault Refusal := unpackStep .ar10 extractAr10 q s

/-- `Extract_AB10` (R177). -/
def extractAb10 (rd : Int → Nat → Option Nat) (j : Job) (r : Nat) : Option Arrays :=
  let e0 := extRow j 0 r
  (allSome (tabulate j.w fun (x : Nat) => rd (e0 + 4 * x) 4)).map fun ws =>
    let f (lo : Nat) : List Nat := ws.map fun w => w >>> lo % 2 ^ 10
    { c0 := f 0, c1 := f 10, c2 := f 20, a := [] }

/-- `UNPACK.AB10` (R177). -/
def execUnpackAb10 (q : ReqFields) (s : State) : Host.Outcome State Fault Refusal := unpackStep .ab10 extractAb10 q s

/-- `Extract_R210` (R179). -/
def extractR210 (rd : Int → Nat → Option Nat) (j : Job) (r : Nat) : Option Arrays :=
  let e0 := extRow j 0 r
  (allSome (tabulate j.w fun (x : Nat) => rd (e0 + 4 * x) 4)).map fun ws =>
    let f (lo : Nat) : List Nat := ws.map fun w => bswap32 w >>> lo % 2 ^ 10
    { c0 := f 20, c1 := f 10, c2 := f 0, a := [] }

/-- `UNPACK.R210` (R179). -/
def execUnpackR210 (q : ReqFields) (s : State) : Host.Outcome State Fault Refusal := unpackStep .r210 extractR210 q s

/-- `Extract_DPX0` (R181). -/
def extractDpx0 (rd : Int → Nat → Option Nat) (j : Job) (r : Nat) : Option Arrays :=
  let e0 := extRow j 0 r
  (allSome (tabulate j.w fun (x : Nat) => rd (e0 + 4 * x) 4)).map fun ws =>
    let f (lo : Nat) : List Nat := ws.map fun w => bswap32 w >>> lo % 2 ^ 10
    { c0 := f 22, c1 := f 12, c2 := f 2, a := [] }

/-- `UNPACK.DPX0` (R181). -/
def execUnpackDpx0 (q : ReqFields) (s : State) : Host.Outcome State Fault Refusal := unpackStep .dpx0 extractDpx0 q s

/-- `Extract_RGB8P` (R183). -/
def extractRgb8p (rd : Int → Nat → Option Nat) (j : Job) (r : Nat) : Option Arrays :=
  let e0 := extRow j 0 r
  let red := allSome ((List.range (j.w / 8)).flatMap fun (g : Nat) =>
    tabulate 8 fun (i : Nat) => rd (e0 + 48 * g + 0 + 2 * i) 2)
  let green := allSome ((List.range (j.w / 8)).flatMap fun (g : Nat) =>
    tabulate 8 fun (i : Nat) => rd (e0 + 48 * g + 16 + 2 * i) 2)
  let blue := allSome ((List.range (j.w / 8)).flatMap fun (g : Nat) =>
    tabulate 8 fun (i : Nat) => rd (e0 + 48 * g + 32 + 2 * i) 2)
  arrays3 red green blue

/-- `UNPACK.RGB8P` (R183). -/
def execUnpackRgb8p (q : ReqFields) (s : State) : Host.Outcome State Fault Refusal := unpackStep .rgb8p extractRgb8p q s

/-- `Extract_RGBA8P` (R185). -/
def extractRgba8p (rd : Int → Nat → Option Nat) (j : Job) (r : Nat) : Option Arrays :=
  let e0 := extRow j 0 r
  let red := allSome ((List.range (j.w / 8)).flatMap fun (g : Nat) =>
    tabulate 8 fun (i : Nat) => rd (e0 + 64 * g + 0 + 2 * i) 2)
  let green := allSome ((List.range (j.w / 8)).flatMap fun (g : Nat) =>
    tabulate 8 fun (i : Nat) => rd (e0 + 64 * g + 16 + 2 * i) 2)
  let blue := allSome ((List.range (j.w / 8)).flatMap fun (g : Nat) =>
    tabulate 8 fun (i : Nat) => rd (e0 + 64 * g + 32 + 2 * i) 2)
  let alpha := allSome ((List.range (j.w / 8)).flatMap fun (g : Nat) =>
    tabulate 8 fun (i : Nat) => rd (e0 + 64 * g + 48 + 2 * i) 2)
  arrays4 red green blue alpha

/-- `UNPACK.RGBA8P` (R185). -/
def execUnpackRgba8p (q : ReqFields) (s : State) : Host.Outcome State Fault Refusal := unpackStep .rgba8p extractRgba8p q s

end Sys2Proof.Machine
end

