-- ==== Sys2Proof/Machine/UnpackYuv.lean ====
section
/-!
DEFINITION. The meanings of `UNPACK.<fmt>` for the YUV layouts (44_format_codecs_yuv.md): each format's extraction rule, and the
engine's step on a request of it (46_row_driver.md R193, R195).
-/

namespace Sys2Proof.Machine

/-- `Extract_YUYV` (R135). -/
def extractYuyv (rd : Int → Nat → Option Nat) (j : Job) (r : Nat) : Option Arrays :=
  let e0 := extRow j 0 r
  let n := j.w / 2
  let y := allSome ((List.range n).flatMap fun (k : Nat) => [rd (e0 + 4 * k + 0) 1, rd (e0 + 4 * k + 2) 1])
  let u := allSome (tabulate n fun (k : Nat) => rd (e0 + 4 * k + 1) 1)
  let v := allSome (tabulate n fun (k : Nat) => rd (e0 + 4 * k + 3) 1)
  arrays3 y u v

/-- `UNPACK.YUYV` (R135). -/
def execUnpackYuyv (q : ReqFields) (s : State) : Host.Outcome State Fault Refusal := unpackStep .yuyv extractYuyv q s

/-- `Extract_UYVY` (R137). -/
def extractUyvy (rd : Int → Nat → Option Nat) (j : Job) (r : Nat) : Option Arrays :=
  let e0 := extRow j 0 r
  let n := j.w / 2
  let y := allSome ((List.range n).flatMap fun (k : Nat) => [rd (e0 + 4 * k + 1) 1, rd (e0 + 4 * k + 3) 1])
  let u := allSome (tabulate n fun (k : Nat) => rd (e0 + 4 * k + 0) 1)
  let v := allSome (tabulate n fun (k : Nat) => rd (e0 + 4 * k + 2) 1)
  arrays3 y u v

/-- `UNPACK.UYVY` (R137). -/
def execUnpackUyvy (q : ReqFields) (s : State) : Host.Outcome State Fault Refusal := unpackStep .uyvy extractUyvy q s

/-- `Extract_V210` (R139), with `f(w, p) = (w >> 10p)[9:0]`. -/
def extractV210 (rd : Int → Nat → Option Nat) (j : Job) (r : Nat) : Option Arrays :=
  let e0 := extRow j 0 r
  let n := j.w / 6
  let w0 := allSome (tabulate n fun (g : Nat) => rd (e0 + 16 * g + 0) 4)
  let w1 := allSome (tabulate n fun (g : Nat) => rd (e0 + 16 * g + 4) 4)
  let w2 := allSome (tabulate n fun (g : Nat) => rd (e0 + 16 * g + 8) 4)
  let w3 := allSome (tabulate n fun (g : Nat) => rd (e0 + 16 * g + 12) 4)
  match w0, w1, w2, w3 with
  | some w0, some w1, some w2, some w3 =>
    let f (w : List Nat) (g p : Nat) : Nat := nth w g >>> (10 * p) % 2 ^ 10
    some
      { c0 := (List.range n).flatMap fun (g : Nat) => [f w0 g 1, f w1 g 0, f w1 g 2, f w2 g 1, f w3 g 0, f w3 g 2]
        c1 := (List.range n).flatMap fun (g : Nat) => [f w0 g 0, f w1 g 1, f w2 g 2]
        c2 := (List.range n).flatMap fun (g : Nat) => [f w0 g 2, f w2 g 0, f w3 g 1]
        a := [] }
  | _, _, _, _ => none

/-- `UNPACK.V210` (R139). -/
def execUnpackV210 (q : ReqFields) (s : State) : Host.Outcome State Fault Refusal := unpackStep .v210 extractV210 q s

/-- `Extract_YU64` (R141). -/
def extractYu64 (rd : Int → Nat → Option Nat) (j : Job) (r : Nat) : Option Arrays :=
  let e0 := extRow j 0 r
  let n := j.w / 2
  let y := allSome ((List.range n).flatMap fun (k : Nat) => [rd (e0 + 8 * k + 0) 2, rd (e0 + 8 * k + 4) 2])
  let u := allSome (tabulate n fun (k : Nat) => rd (e0 + 8 * k + 2) 2)
  let v := allSome (tabulate n fun (k : Nat) => rd (e0 + 8 * k + 6) 2)
  arrays3 y u v

/-- `UNPACK.YU64` (R141). -/
def execUnpackYu64 (q : ReqFields) (s : State) : Host.Outcome State Fault Refusal := unpackStep .yu64 extractYu64 q s

/-- `UNPACK.NV12` (R143): recognised, and always refused by the engine with an error. -/
def execUnpackNv12 (q : ReqFields) (s : State) : Host.Outcome State Fault Refusal := noEntryStep .unpack .nv12 q s

/-- `UNPACK.YV12` (R145): recognised, and always refused by the engine with an error. -/
def execUnpackYv12 (q : ReqFields) (s : State) : Host.Outcome State Fault Refusal := noEntryStep .unpack .yv12 q s

/-- `Extract_AVID_2_8` (R147). -/
def extractAvid28 (rd : Int → Nat → Option Nat) (j : Job) (r : Nat) : Option Arrays :=
  let e0 := extRow j 0 r
  let e1 := extRow j 1 r
  let n := j.w / 2
  let lo := allSome (tabulate n fun (k : Nat) => rd (e0 + k) 1)
  let h0 := allSome (tabulate n fun (k : Nat) => rd (e1 + 4 * k + 0) 1)
  let h1 := allSome (tabulate n fun (k : Nat) => rd (e1 + 4 * k + 1) 1)
  let h2 := allSome (tabulate n fun (k : Nat) => rd (e1 + 4 * k + 2) 1)
  let h3 := allSome (tabulate n fun (k : Nat) => rd (e1 + 4 * k + 3) 1)
  match lo, h0, h1, h2, h3 with
  | some lo, some h0, some h1, some h2, some h3 =>
    let f (h : List Nat) (k i : Nat) : Nat := nth h k <<< 2 ||| nth lo k >>> (2 * i) % 4
    some
      { c0 := (List.range n).flatMap fun (k : Nat) => [f h1 k 1, f h3 k 3]
        c1 := tabulate n fun (k : Nat) => f h0 k 0
        c2 := tabulate n fun (k : Nat) => f h2 k 2
        a := [] }
  | _, _, _, _, _ => none

/-- `UNPACK.AVID_2_8` (R147). -/
def execUnpackAvid28 (q : ReqFields) (s : State) : Host.Outcome State Fault Refusal := unpackStep .avid28 extractAvid28 q s

/-- `Extract_AVID_2_14` (R149): bits 15:14 are ignored. -/
def extractAvid214 (rd : Int → Nat → Option Nat) (j : Job) (r : Nat) : Option Arrays :=
  let e0 := extRow j 0 r
  let n := j.w / 2
  let y := allSome ((List.range n).flatMap fun (k : Nat) => [(rd (e0 + 8 * k + 2) 2).map (· % 2 ^ 14), (rd (e0 + 8 * k + 6) 2).map (· % 2 ^ 14)])
  let u := allSome (tabulate n fun (k : Nat) => (rd (e0 + 8 * k + 0) 2).map (· % 2 ^ 14))
  let v := allSome (tabulate n fun (k : Nat) => (rd (e0 + 8 * k + 4) 2).map (· % 2 ^ 14))
  arrays3 y u v

/-- `UNPACK.AVID_2_14` (R149). -/
def execUnpackAvid214 (q : ReqFields) (s : State) : Host.Outcome State Fault Refusal := unpackStep .avid214 extractAvid214 q s

/-- `Extract_AVID_10_6` (R151). -/
def extractAvid106 (rd : Int → Nat → Option Nat) (j : Job) (r : Nat) : Option Arrays :=
  let e0 := extRow j 0 r
  let n := j.w / 2
  let y := allSome ((List.range n).flatMap fun (k : Nat) => [rd (e0 + 8 * k + 2) 2, rd (e0 + 8 * k + 6) 2])
  let u := allSome (tabulate n fun (k : Nat) => rd (e0 + 8 * k + 0) 2)
  let v := allSome (tabulate n fun (k : Nat) => rd (e0 + 8 * k + 4) 2)
  arrays3 y u v

/-- `UNPACK.AVID_10_6` (R151). -/
def execUnpackAvid106 (q : ReqFields) (s : State) : Host.Outcome State Fault Refusal := unpackStep .avid106 extractAvid106 q s

end Sys2Proof.Machine
end

