-- ==== Sys2Proof/Machine/Dispatch.lean ====
section
/-! DEFINITION. The meaning of each instruction of the opcode table, one arm per constructor. -/

namespace Sys2Proof.Machine

def exec (i : Instr) (s : State) : Host.Outcome State Fault Refusal :=
  match i with
  | .packYuyv q => Sys2Proof.Machine.execPackYuyv q s
  | .packUyvy q => Sys2Proof.Machine.execPackUyvy q s
  | .packV210 q => Sys2Proof.Machine.execPackV210 q s
  | .packYu64 q => Sys2Proof.Machine.execPackYu64 q s
  | .packRgb24 q => Sys2Proof.Machine.execPackRgb24 q s
  | .packRgb32 q => Sys2Proof.Machine.execPackRgb32 q s
  | .packRgba32 q => Sys2Proof.Machine.execPackRgba32 q s
  | .packRgb48 q => Sys2Proof.Machine.execPackRgb48 q s
  | .packRgba64 q => Sys2Proof.Machine.execPackRgba64 q s
  | .packBgra64 q => Sys2Proof.Machine.execPackBgra64 q s
  | .packRg30 q => Sys2Proof.Machine.execPackRg30 q s
  | .packAr10 q => Sys2Proof.Machine.execPackAr10 q s
  | .packAb10 q => Sys2Proof.Machine.execPackAb10 q s
  | .packR210 q => Sys2Proof.Machine.execPackR210 q s
  | .packDpx0 q => Sys2Proof.Machine.execPackDpx0 q s
  | .packRgb8p q => Sys2Proof.Machine.execPackRgb8p q s
  | .packRgba8p q => Sys2Proof.Machine.execPackRgba8p q s
  | .packNv12 q => Sys2Proof.Machine.execPackNv12 q s
  | .packYv12 q => Sys2Proof.Machine.execPackYv12 q s
  | .packAvid28 q => Sys2Proof.Machine.execPackAvid28 q s
  | .packAvid214 q => Sys2Proof.Machine.execPackAvid214 q s
  | .packAvid106 q => Sys2Proof.Machine.execPackAvid106 q s
  | .unpackYuyv q => Sys2Proof.Machine.execUnpackYuyv q s
  | .unpackUyvy q => Sys2Proof.Machine.execUnpackUyvy q s
  | .unpackV210 q => Sys2Proof.Machine.execUnpackV210 q s
  | .unpackYu64 q => Sys2Proof.Machine.execUnpackYu64 q s
  | .unpackRgb24 q => Sys2Proof.Machine.execUnpackRgb24 q s
  | .unpackRgb32 q => Sys2Proof.Machine.execUnpackRgb32 q s
  | .unpackRgba32 q => Sys2Proof.Machine.execUnpackRgba32 q s
  | .unpackRgb48 q => Sys2Proof.Machine.execUnpackRgb48 q s
  | .unpackRgba64 q => Sys2Proof.Machine.execUnpackRgba64 q s
  | .unpackBgra64 q => Sys2Proof.Machine.execUnpackBgra64 q s
  | .unpackRg30 q => Sys2Proof.Machine.execUnpackRg30 q s
  | .unpackAr10 q => Sys2Proof.Machine.execUnpackAr10 q s
  | .unpackAb10 q => Sys2Proof.Machine.execUnpackAb10 q s
  | .unpackR210 q => Sys2Proof.Machine.execUnpackR210 q s
  | .unpackDpx0 q => Sys2Proof.Machine.execUnpackDpx0 q s
  | .unpackRgb8p q => Sys2Proof.Machine.execUnpackRgb8p q s
  | .unpackRgba8p q => Sys2Proof.Machine.execUnpackRgba8p q s
  | .unpackNv12 q => Sys2Proof.Machine.execUnpackNv12 q s
  | .unpackYv12 q => Sys2Proof.Machine.execUnpackYv12 q s
  | .unpackAvid28 q => Sys2Proof.Machine.execUnpackAvid28 q s
  | .unpackAvid214 q => Sys2Proof.Machine.execUnpackAvid214 q s
  | .unpackAvid106 q => Sys2Proof.Machine.execUnpackAvid106 q s
  | .start withSrst withClr ie => Sys2Proof.Machine.execStart withSrst withClr ie s
  | .clr withSrst ie => Sys2Proof.Machine.execClr withSrst ie s
  | .srst ie => Sys2Proof.Machine.execSrst ie s

end Sys2Proof.Machine
end

