-- ==== Sys2Proof/Machine/Flags.lean ====
section
/-!
DEFINITION. The flags of PXC: `STATUS` and `CTRL` as the host reads them (10_state.md R12, R13) and the interrupt output
(R32). No data-path operation sets a flag (R31).
-/

namespace Sys2Proof.Machine

/-- The code of an error in `STATUS.ERR` (R210). -/
def ErrCode.code : ErrCode → Nat
  | .none => 0
  | .csd => 1
  | .fmt => 2
  | .combo => 3
  | .roi => 4
  | .bus => 5

/-- The word read at `STATUS` (R13). -/
def statusWord (s : State) : Word :=
  BitVec.ofNat 32 (bitVal s.busy + 2 * bitVal s.done + 2 ^ 4 * s.err.code + 2 ^ 16 * s.row.toNat)

/-- The word read at `CTRL`: `IE` in bit 8 and 0 elsewhere (R12). -/
def ctrlWord (s : State) : Word := BitVec.ofNat 32 (2 ^ 8 * bitVal s.ie)

/-- The interrupt output `irq = CTRL.IE and STATUS.DONE` (R32), low while reset is asserted (R230). -/
def irq (s : State) : Bool := s.ie && s.done && !s.rst

end Sys2Proof.Machine
end

