-- ==== Sys2Proof/Machine/HostOps.lean ====
section
/-!
DEFINITION. The host agent (70_reset_and_hazards.md R236): the register block (10_state.md R11 to R22), the host's memory
accesses, the reset input (R230), and which instruction the next step runs.
-/

namespace Sys2Proof.Machine

/-! ## The register block -/

/-- The registers of the block (R11). -/
inductive Reg where
  | ctrl
  | status
  | reqOp
  | roi
  | frame
  | ditherCtl
  | ditherSeed
  | planeBase (i : Fin 4)
  | planePitch (i : Fin 4)
  | planeTag (i : Fin 4)
  | extBase (j : Fin 3)
  | extPitch (j : Fin 3)
  | reserved
deriving DecidableEq, Repr

/-- The register at a word offset of the block (the table of R11; R22). -/
def regAt (off : Nat) : Reg :=
  if off < 0x20 then
    match off / 4 with
    | 0 => .ctrl
    | 1 => .status
    | 2 => .reqOp
    | 3 => .roi
    | 4 => .frame
    | 5 => .ditherCtl
    | 6 => .ditherSeed
    | _ => .reserved
  else if off < 0x40 then
    let i := Fin.ofNat 4 ((off - 0x20) / 8)
    if (off - 0x20) % 8 = 0 then .planeBase i else .planePitch i
  else if off < 0x50 then .planeTag (Fin.ofNat 4 ((off - 0x40) / 4))
  else if off < 0x68 then
    let j := Fin.ofNat 3 ((off - 0x50) / 8)
    if (off - 0x50) % 8 = 0 then .extBase j else .extPitch j
  else .reserved

/-- The register a host access reaches: a whole aligned word inside the block (R11). Anything else is refused (U5). -/
def regOf (p : Platform) (addr : Word) (width : AccessWidth) : Option Reg :=
  let off := addr.toNat - p.regBase.toNat
  if width = .word && p.regBase.toNat ≤ addr.toNat && off ≤ 0x7C && off % 4 = 0 then some (regAt off) else none

/-- The value a read of a register returns (R11 to R22); reserved registers and bits read 0. -/
def readReg (s : State) : Reg → Word
  | .ctrl => ctrlWord s
  | .status => statusWord s
  | .reqOp => s.regs.reqOp
  | .roi => s.regs.roi
  | .frame => s.regs.frame
  | .ditherCtl => s.regs.ditherCtl
  | .ditherSeed => s.dstate
  | .planeBase i => s.regs.planeBase[i]
  | .planePitch i => s.regs.planePitch[i]
  | .planeTag i => s.regs.planeTag[i]
  | .extBase j => s.regs.extBase[j]
  | .extPitch j => s.regs.extPitch[j]
  | .reserved => 0

/-- The low `n` bits of a word: a write to a register whose other bits are reserved (R11). -/
def lowBits (w : Word) (n : Nat) : Word := BitVec.ofNat 32 (slice w 0 n)

/-- A write to a register (R11 to R22). Of `CTRL` this is the stored bit `IE` alone: the commands in the word are
instructions. `STATUS` and reserved registers ignore writes; while busy every write is ignored (R11, R202). -/
def writeReg (s : State) (v : Word) (r : Reg) : State :=
  if s.busy then s
  else match r with
    | .ctrl => { s with ie := bitAt v 8 }
    | .status => s
    | .reqOp => { s with regs := { s.regs with reqOp := v } }
    | .roi => { s with regs := { s.regs with roi := v } }
    | .frame => { s with regs := { s.regs with frame := lowBits v 16 } }
    | .ditherCtl => { s with regs := { s.regs with ditherCtl := lowBits v 2 } }
    | .ditherSeed => { s with dstate := v }
    | .planeBase i => { s with regs := { s.regs with planeBase := s.regs.planeBase.set i v } }
    | .planePitch i => { s with regs := { s.regs with planePitch := s.regs.planePitch.set i v } }
    | .planeTag i => { s with regs := { s.regs with planeTag := s.regs.planeTag.set i (lowBits v 3) } }
    | .extBase j => { s with regs := { s.regs with extBase := s.regs.extBase.set j v } }
    | .extPitch j => { s with regs := { s.regs with extPitch := s.regs.extPitch.set j v } }
    | .reserved => s

/-! ## Memory seen by the host -/

/-- The byte lies in one of the runs. -/
def inSpans (a : Int) (ss : List Span) : Bool := ss.any fun sp => sp.meets ⟨a, 1⟩

/-- The write footprint of the running request, empty where none runs (R199). -/
def runningWrites (s : State) : List Span :=
  if s.busy then match prepareLatched s.cmt s.cur with
    | .ok j => writeFootprint j
    | .error _ => []
  else []

/-- The read footprint of the running request, empty where none runs (R199). -/
def runningReads (s : State) : List Span :=
  if s.busy then match prepareLatched s.cmt s.cur with
    | .ok j => readFootprint j
    | .error _ => []
  else []

/-- A host access to one byte of memory: it must be backed (log 17) and ordinary memory (log 3). -/
def hostAccess (s : State) (a : Word) (k : State) : Host.Outcome State Fault Refusal :=
  if s.platform.devices.any fun r => r.span.meets ⟨a.toNat, 1⟩ then .refused .sideEffectMemory
  else if accessOk s.platform a.toNat 1 then .next k
  else .fault .hostAccess

/-- What the host reads at an address: between START and `DONE` the bytes of the write footprint are unspecified to any
observer (R52 item 5, U8; log 9). -/
def hostLoad (s : State) (a : Word) : State :=
  if inSpans a.toNat (runningWrites s) then
    { s with readData := (Config.freeByte s.freeCtr).setWidth 32, freeCtr := s.freeCtr + 1 }
  else { s with readData := (loadByte s.mem a.toNat).setWidth 32 }

/-- A host write: into the footprints of the running request it breaks duty 3 of R236 (U14; log 9). -/
def hostStore (s : State) (a : Word) (b : Byte) : State :=
  { s with
    mem := storeByte s.mem a.toNat b
    tainted := s.tainted || inSpans a.toNat (runningReads s ++ runningWrites s) }

/-! ## The reset input -/

/-- `rst` is asserted (R230): a running request is abandoned without setting `DONE` or `ERR`, its write footprint holding
unspecified bytes (U7); every register takes its reset value. -/
def assertReset (s : State) : State := { resetRegisters (unspecify (runningWrites s) s) with rst := true }

/-- `rst` is released (R230): every register has its reset value. -/
def releaseReset (s : State) : State := if s.rst then { resetRegisters s with rst := false } else s

/-! ## Turns -/

/-- A register read by the host; while reset is asserted its value is unspecified (log 16). -/
def hostRegRead (s : State) (r : Reg) : State :=
  if s.rst then { s with readData := Config.freeWord s.freeCtr, freeCtr := s.freeCtr + 1 }
  else { s with readData := readReg s r }

/-- A register write by the host, ignored while reset is asserted (R230). -/
def hostRegWrite (s : State) (v : Word) (r : Reg) : State := if s.rst then s else writeReg s v r

/-- The engine's turn where it runs no instruction: idle (R230, R237), or, in a state no run reaches, a latched word that
names no request, whose error is recorded (R191; log 15). -/
def engineIdle (s : State) : State :=
  if s.busy && !s.rst then takeConfigError ((validate s.cur).getD .fmt) s else s

/-- The turn of a state whose next step runs no instruction: a host action other than a command, or an idle engine. What
`STATUS` reads while reset is asserted the spec leaves open (R230): a `WAIT` sees the reset value `DONE = 0` there and goes
on waiting (DESIGN CHOICE, log 16). -/
def otherTurn (s : State) : Host.Outcome State Fault Refusal :=
  match s.host with
  | [] => .next (engineIdle s)
  | .engine :: rest => .next (engineIdle { s with host := rest })
  | .wait :: rest =>
    if s.done then .next { s with host := rest, readData := statusWord s } else .next (engineIdle s)
  | .regRead a width :: rest =>
    match regOf s.platform a width with
    | some r => .next (hostRegRead { s with host := rest } r)
    | none => .refused .registerAccess
  | .regWrite a width v :: rest =>
    match regOf s.platform a width with
    | some r => .next (hostRegWrite { s with host := rest } v r)
    | none => .refused .registerAccess
  | .memRead a :: rest => hostAccess s a (hostLoad { s with host := rest } a)
  | .memWrite a b :: rest => hostAccess s a (hostStore { s with host := rest } a b)
  | .reset true :: rest => .next (assertReset { s with host := rest })
  | .reset false :: rest => .next (releaseReset { s with host := rest })

/-- The request the engine runs on its turn: the one latched in `cur`, while busy (R193, R200). -/
def fetchRequest (s : State) : Option Instr :=
  if s.busy && !s.rst then decode .request s.cur.reqOp else none

/-- The command a host write to `CTRL` carries (R12, R72); writes are ignored while reset is asserted (R230). -/
def fetchCommand (s : State) (a : Word) (width : AccessWidth) (v : Word) : Option Instr :=
  if regOf s.platform a width = some .ctrl && !s.rst then decode .command v else none

/-- The instruction the next step runs, and the state it runs it in (the turn it came from taken off the host's list).
`WAIT` leaves its turn to the engine until `DONE = 1` (R74). -/
def fetch (s : State) : Option (Instr × State) :=
  match s.host with
  | [] => (fetchRequest s).map fun i => (i, s)
  | .engine :: rest => (fetchRequest s).map fun i => (i, { s with host := rest })
  | .wait :: _ => if s.done then none else (fetchRequest s).map fun i => (i, s)
  | .regWrite a width v :: rest => (fetchCommand s a width v).map fun i => (i, { s with host := rest })
  | .regRead _ _ :: _ | .memRead _ :: _ | .memWrite _ _ :: _ | .reset _ :: _ => none

end Sys2Proof.Machine
end

