-- ==== Sys2Proof/Machine/Step.lean ====
section
/-!
DEFINITION. One step of the machine: the instruction the next turn carries, or the turn's own effect where it carries
none; and the placing of one instruction where the next step fetches.
-/

namespace Sys2Proof.Machine

/-- One step: one row of the running request, one command, or one other turn (R10, R193; log 11). -/
def step (s : State) : Host.Outcome State Fault Refusal :=
  match fetch s with
  | some (i, t) => exec i t
  | none => otherTurn s

/-- The state whose next step runs the table word `w` (log 12, log 14). A command word becomes the host's next write to
`CTRL`. A request word becomes the request that the engine has latched with the operands now in the registers, at its
first row, and the next turn is the engine's. -/
def State.withFetchWord (s : State) (nbits w : Nat) : State :=
  if nbits < 32 then
    { s with rst := false, host := .regWrite s.platform.regBase .word (BitVec.ofNat 32 w) :: s.host }
  else
    let c := { s.regs with reqOp := BitVec.ofNat 32 w }
    { s with
      rst := false, busy := true, done := false, err := .none, row := 0, regs := c, cur := c, tainted := false
      host := .engine :: s.host }

end Sys2Proof.Machine
end

