-- ==== Sys2Proof/Machine/Script.lean ====
section
/-!
DEFINITION. The notation of 30_encoding.md section 7: the request line of R73, and the host script lines of R74 as lists of
host actions.
-/

namespace Sys2Proof.Machine

/-- The offset of a register in the block (the table of R11). `reserved` stands for the first reserved word. -/
def Reg.offset : Reg → Nat
  | .ctrl => 0x00
  | .status => 0x04
  | .reqOp => 0x08
  | .roi => 0x0C
  | .frame => 0x10
  | .ditherCtl => 0x14
  | .ditherSeed => 0x18
  | .planeBase i => 0x20 + 8 * i
  | .planePitch i => 0x24 + 8 * i
  | .planeTag i => 0x40 + 4 * i
  | .extBase j => 0x50 + 8 * j
  | .extPitch j => 0x54 + 8 * j
  | .reserved => 0x1C

/-- `WR <reg>, <value>` (R74), for a block seen at `base`. -/
def wr (base : Word) (r : Reg) (v : Word) : List HostAct := [.regWrite (base + BitVec.ofNat 32 r.offset) .word v]

/-- `REQ <request line>` (R74). -/
def scriptReq (base : Word) (d : Dir) (f : Fmt) (q : ReqFields) : List HostAct := wr base .reqOp (reqWord d f q)

/-- `ROI <w>, <h>` (R74). -/
def scriptRoi (base : Word) (w h : Nat) : List HostAct := wr base .roi (BitVec.ofNat 32 (w + h * 2 ^ 16))

/-- `PLANE <i>, <tag letter>, <base>, <pitch>` (R74); a negative pitch in two's complement. -/
def scriptPlane (base : Word) (i : Fin 4) (ch : Chan) (addr : Nat) (pitch : Int) : List HostAct :=
  wr base (.planeBase i) (BitVec.ofNat 32 addr) ++ wr base (.planePitch i) (BitVec.ofInt 32 pitch)
    ++ wr base (.planeTag i) (BitVec.ofNat 32 ch.tag)

/-- `EXT <j>, <base>, <pitch>` (R74). -/
def scriptExt (base : Word) (j : Fin 3) (addr : Nat) (pitch : Int) : List HostAct :=
  wr base (.extBase j) (BitVec.ofNat 32 addr) ++ wr base (.extPitch j) (BitVec.ofInt 32 pitch)

/-- `START` (R74): `CLR` then `START` in one word. -/
def scriptStart (base : Word) : List HostAct := wr base .ctrl 3

/-- `WAIT` (R74). -/
def scriptWait : List HostAct := [.wait]

/-- The name of a layout (R62). -/
def fmtName : Fmt → String
  | .yuyv => "YUYV"
  | .uyvy => "UYVY"
  | .v210 => "V210"
  | .yu64 => "YU64"
  | .rgb24 => "RGB24"
  | .rgb32 => "RGB32"
  | .rgba32 => "RGBA32"
  | .rgb48 => "RGB48"
  | .rgba64 => "RGBA64"
  | .bgra64 => "BGRA64"
  | .rg30 => "RG30"
  | .ar10 => "AR10"
  | .ab10 => "AB10"
  | .r210 => "R210"
  | .dpx0 => "DPX0"
  | .rgb8p => "RGB8P"
  | .rgba8p => "RGBA8P"
  | .nv12 => "NV12"
  | .yv12 => "YV12"
  | .avid28 => "AVID_2_8"
  | .avid214 => "AVID_2_14"
  | .avid106 => "AVID_10_6"

/-- The colour space of a request line (R73). -/
def csName (c : BitVec 3) : String :=
  match decodeCs c with
  | some .bt601cg => "601CG"
  | some .bt709cg => "709CG"
  | some .bt601vs => "601VS"
  | some .bt709vs => "709VS"
  | none => "?"

/-- The planar family of a request line (R73). -/
def familyName : Family → String
  | .yuv422 => "YUV422"
  | .yuv444 => "YUV444"
  | .rgb => "RGB"
  | .rgba => "RGBA"

/-- The depth of a request line (R73): `u` or `s` and the number of bits. -/
def depthName (q : ReqFields) : String :=
  (if q.psigned then "s" else "u") ++ (match decodeDepth q.pdepth with
    | some s => toString s
    | none => "?")

/-- The first word of a request line (R73). -/
def headName (d : Dir) (f : Fmt) : String :=
  (match d with
    | .pack => "PACK."
    | .unpack => "UNPACK.") ++ fmtName f

/-- The words of the request line of a request (R73): a flag word present means the bit is 1. -/
def requestWords (d : Dir) (f : Fmt) (q : ReqFields) : List String :=
  let flag (on : Bool) (name : String) : List String := if on then [name] else []
  [headName d f, "cs=" ++ csName q.cs] ++ flag q.ups "ups" ++ flag q.c709 "c709" ++ flag q.vflip "vflip"
    ++ ["p=" ++ familyName q.pfam ++ ":" ++ depthName q] ++ flag q.acomp "acomp"

/-- The request line of a request (R73). -/
def requestLine (d : Dir) (f : Fmt) (q : ReqFields) : String := " ".intercalate (requestWords d f q)

/-- The 22 layouts (R62). -/
def allFmts : List Fmt := (List.range 23).filterMap Fmt.ofTag

/-- Reading the first word of a request line (R73). -/
def parseHead (t : String) : Option (Dir × Fmt) :=
  (allFmts.flatMap fun f => [(Dir.pack, f), (Dir.unpack, f)]).find? fun h => headName h.1 h.2 = t

/-- Reading the `cs=` word of a request line (R73). -/
def parseCs (t : String) : Option (BitVec 3) := [1#3, 2#3, 5#3, 6#3].find? fun c => "cs=" ++ csName c = t

/-- The planar sides a request line can name: family, `PDEPTH` and `PSIGNED` (R73). -/
def planarSides : List (Family × BitVec 3 × Bool) :=
  [Family.yuv422, .yuv444, .rgb, .rgba].flatMap fun f =>
    [(f, 0#3, false), (f, 1#3, false), (f, 2#3, false), (f, 3#3, false), (f, 4#3, false), (f, 2#3, true), (f, 3#3, true)]

/-- The fields of a request with no flag set. -/
def plainFields (cs : BitVec 3) (p : Family × BitVec 3 × Bool) : ReqFields :=
  ⟨cs, false, false, false, p.1, p.2.1, p.2.2, false⟩

/-- Reading the `p=` word of a request line (R73). -/
def parsePlanar (t : String) : Option (Family × BitVec 3 × Bool) :=
  planarSides.find? fun p => "p=" ++ familyName p.1 ++ ":" ++ depthName (plainFields 0 p) = t

/-- An optional flag word: whether the words begin with it, and the words after it (R73). -/
def takeFlag (name : String) : List String → Bool × List String
  | [] => (false, [])
  | t :: ts => if t = name then (true, ts) else (false, t :: ts)

/-- Reading the words of a request line (R73); `none` where they are none. -/
def parseRequest : List String → Option (Dir × Fmt × ReqFields)
  | h :: c :: ts =>
    let ups := takeFlag "ups" ts
    let c709 := takeFlag "c709" ups.2
    let vflip := takeFlag "vflip" c709.2
    match vflip.2 with
    | p :: rest =>
      let acomp := takeFlag "acomp" rest
      match parseHead h, parseCs c, parsePlanar p with
      | some (d, f), some cs, some pl =>
        if acomp.2 = [] then
          some (d, f, { plainFields cs pl with ups := ups.1, c709 := c709.1, vflip := vflip.1, acomp := acomp.1 })
        else none
      | _, _, _ => none
    | [] => none
  | _ => none

end Sys2Proof.Machine
end

