-- ==== Sys2Proof/Safety.lean ====
section
/-!
DEFINITION. The terms claims about PXC are stated in: the value of bytes in memory, when a row can run, what a row leaves
unchanged, the samples a row outputs, and the invariant every step keeps.
-/

namespace Sys2Proof.Machine

/-- The integer that the `n` bytes from address `a` compose to, little-endian (20_memory.md R41). -/
def bytesAt (m : Memory) (a : Int) (n : Nat) : Nat := leValue (tabulate n fun i => loadByte m (a.toNat + i))

/-- The address lies in one of the spans. -/
def Covers (ss : List Span) (a : Int) : Prop := ∃ sp ∈ ss, sp.start ≤ a ∧ a < sp.start + sp.len

/-- Every byte of the spans is answered without a bus error (R41, R50). -/
def SpansOk (p : Platform) (ss : List Span) : Prop := ∀ sp ∈ ss, ∀ i < sp.len, accessOk p (sp.start + i) 1 = true

/-- The next step of the engine is row `ROW` of the request of direction `d`, format `f` and fields `q` latched in `s`
(R193): it is valid, `j` is its decoded form, every byte of the row's footprint is answered, and memory is in its
canonical form. -/
def RowRuns (d : Dir) (f : Fmt) (q : ReqFields) (s : State) (j : Job) : Prop :=
  s.mem.wf = true ∧ s.busy = true ∧ prepare s.cmt d f q s.cur = .ok j ∧ s.row.toNat < j.h
    ∧ SpansOk s.platform (rowReads j s.row.toNat) ∧ SpansOk s.platform (rowWrites j s.row.toNat)

/-- What a completed row changes (R193, R30): `ROW` by one, memory inside the row's write footprint, and `dstate` in mode
`SEEDED`; nothing else but the model's own counter of free values. -/
def RowFrame (s t : State) (j : Job) : Prop :=
  t = { s with mem := t.mem, dstate := t.dstate, freeCtr := t.freeCtr, row := s.row + 1 }
    ∧ (∀ a : Nat, ¬ Covers (rowWrites j s.row.toNat) a → loadByte t.mem a = loadByte s.mem a)
    ∧ (j.mode ≠ .seeded → t.dstate = s.dstate)

/-- The array of a channel (R130). -/
def Arrays.chan (o : Arrays) : Chan → List Nat
  | .y | .r => o.c0
  | .u | .g => o.c1
  | .v | .b => o.c2
  | .a => o.a

/-- The output samples of a PACK row after fill, with its draws (R194 steps 1 to 5). -/
def packOutput (s : State) (j : Job) (r : Nat) : Option (Arrays × Draws) :=
  (loadRows s j r).map fun x =>
    let out := exitRow s.act j r (convert s.cmt.c709 j (enterRows j x.1)) x.2 s.draws
    (fillRow j r out.1, out.2)

/-- The output samples of an UNPACK row of the extracted fields `a`, with its draws (R195 steps 1 to 3). -/
def unpackOutput (s : State) (j : Job) (r : Nat) (a : Arrays) : Arrays × Draws :=
  exitRow s.act j r (convert s.cmt.c709 j (enterRows j (intRows a))) (a.a.map Int.ofNat) s.draws

/-- A row of the PACK request `i` ends in a next state, with the row's frame, and memory then holds the row's output
samples `o` as `P` says. Where the host made footprints overlap (R54) nothing is said of the bytes. -/
def PackRowPlaces (i : ReqFields → Instr) (f : Fmt) (P : Job → Nat → Arrays → Memory → Prop) : Prop :=
  ∀ q s j, RowRuns .pack f q s j →
    ∃ o ds t, packOutput s j s.row.toNat = some (o, ds) ∧ exec (i q) s = .next t ∧ RowFrame s t j
      ∧ t.dstate = ds.dstate ∧ (overlaps j = false → P j s.row.toNat o t.mem)

/-- A row of the UNPACK request `i` ends in a next state, with the row's frame; the fields it takes from memory are `a`, as
`P` says; and the planes then hold the output samples of those fields (R45, R195). -/
def UnpackRowTakes (i : ReqFields → Instr) (f : Fmt) (P : Job → Nat → Memory → Arrays → Prop) : Prop :=
  ∀ q s j, RowRuns .unpack f q s j →
    ∃ a t, P j s.row.toNat s.mem a ∧ exec (i q) s = .next t ∧ RowFrame s t j
      ∧ t.dstate = (unpackOutput s j s.row.toNat a).2.dstate
      ∧ (overlaps j = false → ∀ ch ∈ familyChans j.q.pfam, ∀ x < ncols j.fam j.w ch,
          bytesAt t.mem (planeAddr j ch s.row.toNat x) j.bps = nth ((unpackOutput s j s.row.toNat a).1.chan ch) x)

/-- The planar sample a PACK row loads, clamped to its depth (R44, R120): negative values to 0. -/
def clampedSample (m : Memory) (j : Job) (ch : Chan) (r x : Nat) : Nat :=
  let raw := bytesAt m (planeAddr j ch r x) j.bps
  if j.q.psigned && 2 ^ 15 ≤ raw then 0 else min raw (2 ^ j.s - 1)

/-- Every sample of the colour arrays is in `0 .. 2^D - 1`. -/
def RowsInRange (d : Nat) (b : Rows) : Prop :=
  ∀ l ∈ [b.c0, b.c1, b.c2], ∀ v ∈ l, 0 ≤ v ∧ v < 2 ^ d

/-- `Place_f` (R130). -/
def placeOf : Fmt → Place
  | .yuyv => placeYuyv
  | .uyvy => placeUyvy
  | .v210 => placeV210
  | .yu64 => placeYu64
  | .rgb24 => placeRgb24
  | .rgb32 => placeRgb32
  | .rgba32 => placeRgba32
  | .rgb48 => placeRgb48
  | .rgba64 => placeRgba64
  | .bgra64 => placeBgra64
  | .rg30 => placeRg30
  | .ar10 => placeAr10
  | .ab10 => placeAb10
  | .r210 => placeR210
  | .dpx0 => placeDpx0
  | .rgb8p => placeRgb8p
  | .rgba8p => placeRgba8p
  | .nv12 => placeNv12
  | .yv12 => placeYv12
  | .avid28 => placeAvid28
  | .avid214 => placeAvid214
  | .avid106 => placeAvid106

/-- `Extract_f` (R130); the 4:2:0 layouts have none (R143, R145). -/
def extractOf : Fmt → Extract
  | .yuyv => extractYuyv
  | .uyvy => extractUyvy
  | .v210 => extractV210
  | .yu64 => extractYu64
  | .rgb24 => extractRgb24
  | .rgb32 => extractRgb32
  | .rgba32 => extractRgba32
  | .rgb48 => extractRgb48
  | .rgba64 => extractRgba64
  | .bgra64 => extractBgra64
  | .rg30 => extractRg30
  | .ar10 => extractAr10
  | .ab10 => extractAb10
  | .r210 => extractR210
  | .dpx0 => extractDpx0
  | .rgb8p => extractRgb8p
  | .rgba8p => extractRgba8p
  | .nv12 => fun _ _ _ => none
  | .yv12 => fun _ _ _ => none
  | .avid28 => extractAvid28
  | .avid214 => extractAvid214
  | .avid106 => extractAvid106

/-- The writes and draws of row `r` of a request (R193). -/
def rowOf (d : Dir) (f : Fmt) : State → Job → Nat → RowResult := match d with
  | .pack => packRow (placeOf f)
  | .unpack => unpackRow (extractOf f)

/-- Every sample of the arrays is in `0 .. 2^D - 1` (R130). -/
def Arrays.inRange (o : Arrays) (d : Nat) : Prop := ∀ l ∈ [o.c0, o.c1, o.c2, o.a], ∀ v ∈ l, v < 2 ^ d

/-- The arrays have the lengths of a row of `n` pixels of a format that both directions serve (R130). -/
def Arrays.fits (o : Arrays) (f : Fmt) (n : Nat) : Prop :=
  o.c0.length = n ∧ o.c1.length = ncols (fmtKind f) n .u ∧ o.c2.length = ncols (fmtKind f) n .u
    ∧ o.a.length = if fmtKind f = .rgba then n else 0

/-- The registers hold their reset values (R34); `cur` is unspecified there, and `IE` is stated apart (R231). -/
def AtReset (s : State) : Prop :=
  s.busy = false ∧ s.done = false ∧ s.err = .none ∧ s.row = 0 ∧ s.dstate = 1
    ∧ s.regs.reqOp = 0 ∧ s.regs.roi = 0 ∧ s.regs.frame = 0 ∧ s.regs.ditherCtl = 0
    ∧ (∀ i : Fin 4, s.regs.planeBase[i] = 0 ∧ s.regs.planePitch[i] = 0 ∧ s.regs.planeTag[i] = 0)
    ∧ (∀ i : Fin 3, s.regs.extBase[i] = 0 ∧ s.regs.extPitch[i] = 0)

/-- The bits of a register that a write stores (R11 to R21); `STATUS` and the reserved words store none. -/
def Reg.stored : Reg → Word
  | .ctrl => 0x100
  | .status | .reserved => 0
  | .frame => 0xFFFF
  | .ditherCtl => 3
  | .planeTag _ => 7
  | .reqOp | .roi | .ditherSeed | .planeBase _ | .planePitch _ | .extBase _ | .extPitch _ => 0xFFFFFFFF

/-- The tags the family of a `PFAM` code needs (R66, R20). -/
def neededTags (pfam : Nat) : List Nat :=
  if pfam < 2 then [1, 2, 3] else if pfam = 2 then [4, 5, 6] else [4, 5, 6, 7]

/-- The period of a format by its number (R70). -/
def periodOfTag (f : Nat) : Nat :=
  if f = 3 then 6 else if f = 16 ∨ f = 17 then 8 else if f ∈ [1, 2, 4, 18, 19, 20, 21, 22] then 2 else 1

/-- The reserved bits of the stored registers are 0 (R11, R16, R17, R20). -/
def ReqRegs.reservedZero (c : ReqRegs) : Bool :=
  slice c.frame 16 16 = 0 && slice c.ditherCtl 2 30 = 0 && c.planeTag.toList.all fun w => slice w 3 29 = 0

/-- The invariant of the machine. -/
structure Inv (s : State) : Prop where
  /-- Memory is in canonical form and inside the space (R40). -/
  memory : s.mem.wf = true ∧ s.mem.inSpace = true
  /-- Reserved bits read 0 (R11). -/
  reserved : s.regs.reservedZero = true ∧ s.cur.reservedZero = true
  /-- A running request passed validation, is the one in the live registers (R23), has no error recorded, has not ended,
  has not passed its last row, and reset is not asserted (R13, R24, R31, R230). -/
  running : s.busy = true →
    validate s.cur = none ∧ s.cur = s.regs ∧ s.done = false ∧ s.err = .none ∧ s.row.toNat ≤ roiH s.cur ∧ s.rst = false
  /-- An error is recorded only of a request that has ended (R217, R219). -/
  ended : s.err ≠ .none → s.done = true
  /-- With neither a running nor an ended request the row cursor is 0 (R24). -/
  idle : s.busy = false → s.done = false → s.row = 0

end Sys2Proof.Machine
end

