-- ==== Sys2Proof/Certificates/Slice0/Obligations.lean ====
section
/-!
DEFINITION. The statements about PXC for the provers. Each docstring names the rules of spec/ it rests on.
-/

open Sys2Proof Sys2Proof.Machine

/-! ## Decoding and encoding -/

/-- Decoding what the encoder writes gives the instruction back, for every instruction and every value of its fields
(R61, R72). -/
def Obligations.DecodeInvertsEncode : Prop :=
  ∀ i : Instr, decode (encode i).1 (encode i).2 = some i

/-- A request word that decodes has one meaning: encoding it again gives the same 32 bits (R61, R69: no don't-care bits). -/
def Obligations.EncodeInvertsDecode : Prop :=
  ∀ (w : Word) (i : Instr), decode .request w = some i → encode i = (.request, w)

/-- Exactly the words with bit 6 or a bit of 31:21 set, or `FMT` 0 or 23 to 63, name no request (R62, R69). -/
def Obligations.RequestWordsRefusedExactly : Prop :=
  ∀ w : Word, decode .request w = none ↔
    (w.getLsbD 6 = true ∨ w.extractLsb' 21 11 ≠ 0 ∨ w.extractLsb' 0 6 = 0 ∨ 23 ≤ (w.extractLsb' 0 6).toNat)

/-- Of a command word only bits 0, 1, 2 and 8 count, and it carries no command exactly where bits 2:0 are 0 (R72). -/
def Obligations.CommandWordsIgnoreReservedBits : Prop :=
  ∀ w : Word, decode .command w = decode .command (w &&& 0x107) ∧ (decode .command w = none ↔ w &&& 7 = 0)

/-- A few words written out bit by bit from the fields of the request word (R61) and of the command word (R72). -/
def Obligations.DecodedWordsNameTheirRows : Prop :=
  decode .request 0x00000101 = some (.packYuyv ⟨1, false, false, false, .yuv422, 0, false, false⟩)
    ∧ decode .request 0x00010183 = some (.unpackV210 ⟨1, false, false, false, .yuv422, 1, false, false⟩)
    ∧ decode .request 0x0001810F = some (.packDpx0 ⟨1, false, false, false, .rgb, 1, false, false⟩)
    ∧ decode .request 0x0010C186 = some (.unpackRgb32 ⟨1, false, false, false, .rgba, 0, false, true⟩)
    ∧ decode .request 0x00002112 = some (.packNv12 ⟨1, false, false, true, .yuv422, 0, false, false⟩)
    ∧ decode .command 0x00000003 = some (.start false true false)
    ∧ decode .command 0x00000102 = some (.clr false true)
    ∧ decode .command 0x00000104 = some (.srst true)

/-! ## Commands -/

/-- START of a valid request by an idle engine (R190): the status is cleared, the registers are latched, the engine is
busy; nothing else changes. A `CLR` in the same word makes no difference. (`tainted` is the model's own field, log 9.) -/
def Obligations.StartBeginsValidRequest : Prop :=
  ∀ (s : State) (clr ie : Bool), s.busy = false → validate s.regs = none →
    (∀ j, prepareLatched s.cmt s.regs = .ok j → ∀ r ∈ s.platform.devices, footprintTouches j r = false) →
    exec (.start false clr ie) s = .next
      { s with ie := ie, busy := true, done := false, err := .none, row := 0, cur := s.regs, tainted := false }

/-- START of a request that `Validate` refuses (R190, R217): the code is recorded, the request has ended, `cur` holds it,
and memory, `dstate` and every request register are as before. (`tainted` is the model's own field, log 9.) -/
def Obligations.StartRecordsConfigurationError : Prop :=
  ∀ (s : State) (clr ie : Bool) (e : ErrCode), s.busy = false → validate s.regs = some e →
    exec (.start false clr ie) s = .next
      { s with ie := ie, busy := false, done := true, err := e, row := 0, cur := s.regs, tainted := false }

/-- START of a valid request whose footprint touches memory with read side effects is refused by the model (R49, log 3). -/
def Obligations.StartOverDevicesIsRefused : Prop :=
  ∀ (s : State) (clr ie : Bool) (j : Job) (r : Region), s.busy = false → prepareLatched s.cmt s.regs = .ok j →
    r ∈ s.platform.devices → footprintTouches j r = true →
    exec (.start false clr ie) s = .refused .sideEffectMemory

/-- While busy a host write to any register of the block, `CTRL` with its commands and `IE` too, changes nothing but the
host's own list of pending actions (R202, R11). -/
def Obligations.WritesWhileBusyAreIgnored : Prop :=
  ∀ (s : State) (a v : Word) (r : Reg) (rest : List HostAct), s.busy = true → s.rst = false →
    s.host = .regWrite a .word v :: rest → regOf s.platform a .word = some r →
    step s = .next { s with host := rest }

/-- `CLR` (R218): when not busy it clears `DONE`, `ERR` and `ROW` and stores `IE`, nothing else; while busy it is ignored. -/
def Obligations.ClrClearsStatus : Prop :=
  ∀ (s : State) (ie : Bool),
    (s.busy = false → exec (.clr false ie) s = .next { s with ie := ie, done := false, err := .none, row := 0 })
      ∧ (s.busy = true → exec (.clr false ie) s = .next s)

/-- `SRST` (R231): when not busy every register takes its reset value and then `IE` the written one, the tables and memory
stay; a `CLR` of the same word adds nothing; a `START` of the same word ends at once with `ERR_CSD`; while busy the word
is ignored. -/
def Obligations.SrstResetsRegisters : Prop :=
  ∀ (s : State) (clr ie : Bool),
    (s.busy = false →
      (∃ t, exec (.srst ie) s = .next t ∧ exec (.clr true ie) s = .next t ∧ AtReset t ∧ t.ie = ie
        ∧ t.cmt = s.cmt ∧ t.act = s.act ∧ t.mem = s.mem ∧ t.platform = s.platform ∧ t.host = s.host
        ∧ exec (.start true clr ie) s = .next { t with done := true, err := .csd, cur := t.regs }))
      ∧ (s.busy = true →
        exec (.srst ie) s = .next s ∧ exec (.clr true ie) s = .next s ∧ exec (.start true clr ie) s = .next s)

/-- `Validate` reports the first error of the fixed order `ERR_CSD`, `ERR_FMT`, `ERR_COMBO`, `ERR_ROI`, each on exactly its
causes, read from the bits of the latched registers (R191, R192, R216). -/
def Obligations.ValidateReportsFirstError : Prop :=
  ∀ c : ReqRegs,
    let op := c.reqOp
    let fmt := (op.extractLsb' 0 6).toNat
    let unpack := op.getLsbD 7 = true
    let pfam := (op.extractLsb' 14 2).toNat
    let w := (c.roi.extractLsb' 0 16).toNat
    let h := (c.roi.extractLsb' 16 16).toNat
    let fw := (c.frame.extractLsb' 0 16).toNat
    let per := periodOfTag fmt
    let csBad := (op.extractLsb' 8 3).toNat ∉ [1, 2, 5, 6]
    let fmtBad := op.getLsbD 6 = true ∨ op.extractLsb' 21 11 ≠ 0 ∨ fmt = 0 ∨ 23 ≤ fmt
      ∨ 5 ≤ (op.extractLsb' 16 3).toNat ∨ (op.getLsbD 19 = true ∧ (op.extractLsb' 16 3).toNat ∉ [2, 3])
      ∨ (c.ditherCtl.extractLsb' 0 2).toNat = 3
      ∨ ∃ t ∈ neededTags pfam, ¬ ∃! i : Fin 4, (c.planeTag[i].extractLsb' 0 3).toNat = t
    let comboBad := unpack ∧ (fmt = 18 ∨ fmt = 19)
    let roiBad := w % (if pfam = 0 then Nat.lcm per 2 else per) ≠ 0
      ∨ (¬ unpack ∧ (fw < w ∨ fw % per ≠ 0 ∨ ((fmt = 18 ∨ fmt = 19) ∧ h % 2 ≠ 0)))
    (csBad → validate c = some .csd)
      ∧ (¬ csBad → fmtBad → validate c = some .fmt)
      ∧ (¬ csBad → ¬ fmtBad → comboBad → validate c = some .combo)
      ∧ (¬ csBad → ¬ fmtBad → ¬ comboBad → roiBad → validate c = some .roi)
      ∧ (¬ csBad → ¬ fmtBad → ¬ comboBad → ¬ roiBad → validate c = none)

/-! ## Registers -/

/-- A register that the host writes when not busy then reads the written value in its stored bits, no other register reads
differently, and nothing that is no register changes; `STATUS` and the reserved words ignore the write (R11 to R22). With
the reset input released the step of a host write has that effect, where a word written to `CTRL` carries no command (R12,
R72), and the step of a host read, or of a `WAIT` that sees `DONE = 1`, returns what the register holds (R11, R74). One
access a step, and the field `readData` that takes the word read, are the model's (log 11, log 16). -/
def Obligations.RegistersReadBackWhatIsWritten : Prop :=
  (∀ (s : State) (v : Word) (r : Reg), s.busy = false →
    let t := writeReg s v r
    (r ≠ .status → readReg t r = v &&& r.stored)
      ∧ (r = .status → t = s)
      ∧ (∀ r', r' ≠ r → readReg t r' = readReg s r')
      ∧ t = { s with regs := t.regs, ie := t.ie, dstate := t.dstate })
    ∧ (∀ (s : State) (a v : Word) (r : Reg) (rest : List HostAct), s.rst = false →
      s.host = .regWrite a .word v :: rest → regOf s.platform a .word = some r → (r ≠ .ctrl ∨ v &&& 7 = 0) →
      step s = .next (writeReg { s with host := rest } v r))
    ∧ (∀ (s : State) (a : Word) (r : Reg) (rest : List HostAct), s.rst = false →
      s.host = .regRead a .word :: rest → regOf s.platform a .word = some r →
      step s = .next { s with host := rest, readData := readReg s r })
    ∧ (∀ (s : State) (rest : List HostAct), s.rst = false → s.host = .wait :: rest → s.done = true →
      step s = .next { s with host := rest, readData := readReg s .status })

/-- The 32 words of the block lie at the offsets of the table of R11, wherever `REG_BASE` is. -/
def Obligations.RegisterBlockMap : Prop :=
  ∀ p : Platform, p.regBase.toNat + 0x80 ≤ 2 ^ 32 →
    (∀ r : Reg, r ≠ .reserved → regOf p (p.regBase + BitVec.ofNat 32 r.offset) .word = some r)
      ∧ (∀ off ∈ [0x1C, 0x68, 0x6C, 0x70, 0x74, 0x78, 0x7C],
          regOf p (p.regBase + BitVec.ofNat 32 off) .word = some .reserved)

/-- A register access that is not a whole aligned word inside the block is refused by the model (R11, R22, U5; log 19). -/
def Obligations.AccessesOutsideBlockAreRefused : Prop :=
  ∀ (s : State) (a : Word) (width : AccessWidth) (rest : List HostAct),
    (s.host = .regRead a width :: rest ∨ ∃ v, s.host = .regWrite a width v :: rest) →
    (width ≠ .word ∨ a.toNat < s.platform.regBase.toNat ∨ s.platform.regBase.toNat + 0x7C < a.toNat
      ∨ (a.toNat - s.platform.regBase.toNat) % 4 ≠ 0) →
    step s = .refused .registerAccess

/-- The words read at `STATUS` and `CTRL`, with the six codes of `ERR`, and the interrupt output (R12, R13, R32, R210,
R230). -/
def Obligations.StatusAndInterruptBits : Prop :=
  ∀ s : State,
    (readReg s .status).getLsbD 0 = s.busy ∧ (readReg s .status).getLsbD 1 = s.done
      ∧ (readReg s .status).extractLsb' 2 2 = 0
      ∧ ((readReg s .status).extractLsb' 4 3).toNat = (match s.err with
        | .none => 0
        | .csd => 1
        | .fmt => 2
        | .combo => 3
        | .roi => 4
        | .bus => 5)
      ∧ (readReg s .status).extractLsb' 7 9 = 0
      ∧ (readReg s .status).extractLsb' 16 16 = s.row
      ∧ readReg s .ctrl = (if s.ie then 0x100 else 0)
      ∧ (s.rst = false → irq s = (s.ie && s.done)) ∧ (s.rst = true → irq s = false)

/-- The state right after reset holds the values of R34. -/
def Obligations.ResetStateHoldsStatedValues : Prop :=
  AtReset State.reset ∧ State.reset.ie = false ∧ irq State.reset = false
    ∧ readReg State.reset .status = 0 ∧ readReg State.reset .ditherSeed = 1

/-- The reset input (R230): while it is asserted `irq` is low, the engine is idle, and neither a register write nor the
engine's turn changes anything (whose turn it is, and that a `WAIT` then sees `DONE = 0` and stays, are the model's choice:
log 11, log 16); when it is released every register has its reset value. Neither touches the tables, nor memory outside the
write footprint of an abandoned request. -/
def Obligations.ResetInputAbandonsAndResets : Prop :=
  (∀ (s : State) (rest : List HostAct), s.host = .reset true :: rest →
    ∃ t, step s = .next t ∧ t.rst = true ∧ t.busy = false ∧ irq t = false ∧ t.cmt = s.cmt ∧ t.act = s.act
      ∧ ∀ a : Nat, ¬ Covers (runningWrites s) a → loadByte t.mem a = loadByte s.mem a)
    ∧ (∀ (s : State) (rest : List HostAct), s.rst = true → s.host = .reset false :: rest →
      ∃ t, step s = .next t ∧ t.rst = false ∧ AtReset t ∧ t.ie = false ∧ t.cmt = s.cmt ∧ t.act = s.act
        ∧ t.mem = s.mem)
    ∧ (∀ (s : State) (a v : Word) (r : Reg) (rest : List HostAct), s.rst = true →
      s.host = .regWrite a .word v :: rest → regOf s.platform a .word = some r → step s = .next { s with host := rest })
    ∧ (∀ (s : State) (rest : List HostAct), s.rst = true →
      (s.host = [] → step s = .next s)
        ∧ (s.host = .engine :: rest → step s = .next { s with host := rest })
        ∧ (s.host = .wait :: rest → s.done = false → step s = .next s))

/-! ## Steps and requests -/

/-- A step runs the decoded instruction (R193, R12): on the engine's turn the one the latched word names, on a host write
to `CTRL` the command of the written word. Whose turn a step is, and that it is taken off the host's list, is the model's
choice (log 11): the engine's where nothing is pending, at an entry `engine`, and at a `WAIT` that does not yet see
`DONE = 1`, which stays. -/
def Obligations.StepRunsDecodedInstruction : Prop :=
  (∀ (s : State) (i : Instr) (rest : List HostAct), s.busy = true → s.rst = false →
    decode .request s.cur.reqOp = some i →
    (s.host = [] → step s = exec i s)
      ∧ (s.host = .engine :: rest → step s = exec i { s with host := rest })
      ∧ (s.host = .wait :: rest → s.done = false → step s = exec i s))
    ∧ (∀ (s : State) (i : Instr) (a v : Word) (rest : List HostAct), s.rst = false →
      s.host = .regWrite a .word v :: rest → regOf s.platform a .word = some .ctrl → decode .command v = some i →
      step s = exec i { s with host := rest })

/-- A request whose rows are done completes (R196, R201): `BUSY` falls, `DONE` rises, nothing else changes. All 44 rows of
the table; `UNPACK.NV12` and `UNPACK.YV12` are never valid, so nothing is said of them here. -/
def Obligations.RequestCompletesAfterItsRows : Prop :=
  ∀ (d : Dir) (f : Fmt) (q : ReqFields) (s : State) (j : Job), s.busy = true →
    prepare s.cmt d f q s.cur = .ok j → j.h ≤ s.row.toNat → overlaps j = false → s.tainted = false →
    exec (reqInstr q d f) s = .next { s with busy := false, done := true }

/-- The frame of every request (R30, R33, R130, R199): the engine's step changes no register but the status fields, `ROW`
and `dstate`, and `dstate` only in mode `SEEDED`; memory changes only inside the write footprint; an idle engine changes
nothing. The last field is the model's own counter. -/
def Obligations.RequestFrame : Prop :=
  ∀ (d : Dir) (f : Fmt) (q : ReqFields) (s t : State), exec (reqInstr q d f) s = .next t →
    (s.busy = false → t = s)
      ∧ t = { s with busy := t.busy, done := t.done, err := t.err, row := t.row, mem := t.mem, dstate := t.dstate,
                     freeCtr := t.freeCtr }
      ∧ (∀ a : Nat, (∀ j, prepare s.cmt d f q s.cur = .ok j → ¬ Covers (writeFootprint j) a) →
          loadByte t.mem a = loadByte s.mem a)
      ∧ ((∀ j, prepare s.cmt d f q s.cur = .ok j → j.mode ≠ .seeded) → t.dstate = s.dstate)

/-- A bus error on a read of the row (R215, R50): the request ends with `ERR_BUS` and `ROW` at the failing row; nothing of
the row is written and none of its draws made. -/
def Obligations.ReadBusErrorEndsRequest : Prop :=
  ∀ (d : Dir) (f : Fmt) (q : ReqFields) (s : State) (j : Job), s.busy = true →
    prepare s.cmt d f q s.cur = .ok j → s.row.toNat < j.h → ¬ SpansOk s.platform (rowReads j s.row.toNat) →
    overlaps j = false → s.tainted = false →
    exec (reqInstr q d f) s = .next { s with busy := false, done := true, err := .bus }

/-- A bus error on a write of the row (R215, U6): the request ends with `ERR_BUS` and `ROW` at the failing row, all draws of
the row have been made, and each byte of memory holds what it held or what the row writes there. -/
def Obligations.WriteBusErrorEndsRequest : Prop :=
  ∀ (d : Dir) (f : Fmt) (q : ReqFields) (s : State) (j : Job), s.mem.wf = true → s.busy = true →
    prepare s.cmt d f q s.cur = .ok j → s.row.toNat < j.h → SpansOk s.platform (rowReads j s.row.toNat) →
    ¬ SpansOk s.platform (rowWrites j s.row.toNat) → overlaps j = false → s.tainted = false →
    ∃ ws ds t, rowOf d f s j s.row.toNat = some (ws, ds) ∧ exec (reqInstr q d f) s = .next t
      ∧ t = { s with busy := false, done := true, err := .bus, mem := t.mem, dstate := ds.dstate, freeCtr := t.freeCtr }
      ∧ ∀ a : Nat, loadByte t.mem a = loadByte s.mem a ∨ ((a : Int), loadByte t.mem a) ∈ ws.flatMap Wr.bytes

/-- `UNPACK.NV12` and `UNPACK.YV12` (R143, R145, R213): a request that is legal but for its direction ends with `ERR_COMBO`
at START, whatever its geometry. The engine's step on such a latched request, which no run reaches, records it too: that
clause is the model's choice (log 15). -/
def Obligations.UnpackPlanar420EndsWithCombo : Prop :=
  ∀ (q : ReqFields) (s : State) (clr ie : Bool), q.legal = true →
    (∀ f ∈ [Fmt.nv12, Fmt.yv12], s.busy = false → s.regs.reqOp = reqWord .unpack f q →
      decodeMode s.regs.ditherCtl ≠ none → tagsBad s.regs q.pfam = false →
      exec (.start false clr ie) s = .next
        { s with ie := ie, busy := false, done := true, err := .combo, row := 0, cur := s.regs, tainted := false })
      ∧ (s.busy = true → decodeMode s.cur.ditherCtl ≠ none → tagsBad s.cur q.pfam = false →
        exec (.unpackNv12 q) s = .next { s with busy := false, done := true, err := .combo, row := 0 }
          ∧ exec (.unpackYv12 q) s = .next { s with busy := false, done := true, err := .combo, row := 0 })

/-- The invariant holds after reset. -/
def Obligations.InvariantHoldsAtReset : Prop := Inv State.reset

/-- Every step keeps the invariant: memory stays canonical, reserved bits 0, a running request stays the validated snapshot
of the live registers, an error belongs to an ended request, and `ROW` is 0 between requests (R11, R13, R23, R24, R217). -/
def Obligations.StepKeepsInvariant : Prop :=
  ∀ s t : State, Inv s → step s = .next t → Inv t

/-- Progress (R237): a running valid request ends after at most `ROI.H - ROW` rows and the completion, with no host action,
in completion with `ROW = ROI.H` or in `ERR_BUS` at a row not done; and each step that leaves it running increases `ROW`
by one. -/
def Obligations.ValidRequestAlwaysEnds : Prop :=
  ∀ (s : State) (j : Job), s.busy = true → s.done = false → s.err = .none → s.rst = false → s.host = [] →
    prepareLatched s.cmt s.cur = .ok j → s.row.toNat ≤ j.h →
    (∃ k t, k ≤ j.h - s.row.toNat + 1 ∧ Host.Core.run Sys2Proof.core k s = .next t ∧ t.busy = false ∧ t.done = true
      ∧ ((t.err = .none ∧ t.row.toNat = j.h) ∨ (t.err = .bus ∧ s.row.toNat ≤ t.row.toNat ∧ t.row.toNat < j.h)))
      ∧ ∀ t, step s = .next t → t.busy = true → t.row.toNat = s.row.toNat + 1

/-- No step changes the colour matrix table or the alpha curve table (R25, R26, R86), nor the platform's parameters, whose
being fixed fields of State is the model's choice (log 1, log 2, log 3). -/
def Obligations.TablesNeverChange : Prop :=
  ∀ s t : State, step s = .next t → t.cmt = s.cmt ∧ t.act = s.act ∧ t.platform = s.platform

/-- `dstate` changes only by the draws of one row of a running request in mode `SEEDED`, at most four a pixel (R18, R28,
R113, R114), by a host write to `DITHER_SEED` when not busy (R18), or, to 1, where the reset input is asserted or released
(R230) or a word with the `SRST` bit is written to `CTRL` when not busy (R231). -/
def Obligations.SeedChangesOnlyAsStated : Prop :=
  ∀ s t : State, step s = .next t →
    t.dstate = s.dstate
      ∨ (s.busy = true ∧ s.rst = false ∧ decodeMode s.cur.ditherCtl = some .seeded
          ∧ ∃ n ≤ 4 * roiW s.cur, t.dstate = seededNext^[n] s.dstate)
      ∨ (s.busy = false ∧ s.rst = false ∧ ∃ a rest, s.host = .regWrite a .word t.dstate :: rest
          ∧ regOf s.platform a .word = some .ditherSeed)
      ∨ (t.dstate = 1 ∧ ((∃ rest, s.host = .reset true :: rest) ∨ (s.rst = true ∧ ∃ rest, s.host = .reset false :: rest)
          ∨ (s.busy = false ∧ s.rst = false ∧ ∃ a v rest, s.host = .regWrite a .word v :: rest
              ∧ regOf s.platform a .word = some .ctrl ∧ v.getLsbD 2 = true)))

/-- A byte of memory changes only where the running request's write footprint has it or the host writes it (R33, R199). A
host write of a backed byte of ordinary memory stores it, and a host read outside the write footprint of the running
request, if there is one, returns it (R236, R40; one access a step and the field `readData` are the model's, log 11 and
log 16). -/
def Obligations.MemoryChangesOnlyInFootprint : Prop :=
  (∀ s t : State, step s = .next t → ∀ a : Nat,
    loadByte t.mem a = loadByte s.mem a
      ∨ (s.busy = true ∧ Covers (runningWrites s) a)
      ∨ ∃ w b rest, s.host = .memWrite w b :: rest ∧ w.toNat = a)
    ∧ ∀ (s : State) (w : Word) (rest : List HostAct), accessOk s.platform w.toNat 1 = true →
      (∀ r ∈ s.platform.devices, r.span.meets ⟨w.toNat, 1⟩ = false) →
      (∀ b, s.mem.wf = true → s.host = .memWrite w b :: rest → ∃ t, step s = .next t ∧ loadByte t.mem w.toNat = b)
        ∧ (¬ Covers (runningWrites s) w.toNat → s.host = .memRead w :: rest →
          step s = .next { s with host := rest, readData := (loadByte s.mem w.toNat).setWidth 32 })

/-- A row's effect is a function of the bytes it reads (R30, R235): two states that differ only in memory, and agree on the
row's read footprint, step to states that differ only in memory, and agree on the row's write footprint. -/
def Obligations.RowDependsOnlyOnBytesRead : Prop :=
  ∀ (d : Dir) (f : Fmt) (q : ReqFields) (s : State) (j : Job) (m : Memory), RowRuns d f q s j → Memory.wf m = true →
    (∀ a : Nat, Covers (rowReads j s.row.toNat) a → loadByte m a = loadByte s.mem a) →
    ∃ t u, exec (reqInstr q d f) s = .next t ∧ exec (reqInstr q d f) { s with mem := m } = .next u
      ∧ u = { t with mem := u.mem }
      ∧ ∀ a : Nat, Covers (rowWrites j s.row.toNat) a → loadByte u.mem a = loadByte t.mem a

/-! ## PACK rows -/

/-- `PACK.YUYV`, `PACK.UYVY`, `PACK.YU64`, `PACK.AVID_2_14`, `PACK.AVID_10_6`: the placement of a row's output samples
(R134, R136, R140, R148, R150). -/
def Obligations.PackedYuv422RowsPlaceSamples : Prop :=
  PackRowPlaces .packYuyv .yuyv (fun j r o m => ∀ k : Nat, k < j.fw / 2 →
      bytesAt m (extRow j 0 r + 4 * k + 0) 1 = nth o.c0 (2 * k) ∧ bytesAt m (extRow j 0 r + 4 * k + 1) 1 = nth o.c1 k
        ∧ bytesAt m (extRow j 0 r + 4 * k + 2) 1 = nth o.c0 (2 * k + 1)
        ∧ bytesAt m (extRow j 0 r + 4 * k + 3) 1 = nth o.c2 k)
    ∧ PackRowPlaces .packUyvy .uyvy (fun j r o m => ∀ k : Nat, k < j.fw / 2 →
      bytesAt m (extRow j 0 r + 4 * k + 0) 1 = nth o.c1 k ∧ bytesAt m (extRow j 0 r + 4 * k + 1) 1 = nth o.c0 (2 * k)
        ∧ bytesAt m (extRow j 0 r + 4 * k + 2) 1 = nth o.c2 k
        ∧ bytesAt m (extRow j 0 r + 4 * k + 3) 1 = nth o.c0 (2 * k + 1))
    ∧ PackRowPlaces .packYu64 .yu64 (fun j r o m => ∀ k : Nat, k < j.fw / 2 →
      bytesAt m (extRow j 0 r + 8 * k + 0) 2 = nth o.c0 (2 * k) ∧ bytesAt m (extRow j 0 r + 8 * k + 2) 2 = nth o.c1 k
        ∧ bytesAt m (extRow j 0 r + 8 * k + 4) 2 = nth o.c0 (2 * k + 1)
        ∧ bytesAt m (extRow j 0 r + 8 * k + 6) 2 = nth o.c2 k)
    ∧ PackRowPlaces .packAvid214 .avid214 (fun j r o m => ∀ k : Nat, k < j.fw / 2 →
      bytesAt m (extRow j 0 r + 8 * k + 0) 2 = nth o.c1 k ∧ bytesAt m (extRow j 0 r + 8 * k + 2) 2 = nth o.c0 (2 * k)
        ∧ bytesAt m (extRow j 0 r + 8 * k + 4) 2 = nth o.c2 k
        ∧ bytesAt m (extRow j 0 r + 8 * k + 6) 2 = nth o.c0 (2 * k + 1))
    ∧ PackRowPlaces .packAvid106 .avid106 (fun j r o m => ∀ k : Nat, k < j.fw / 2 →
      bytesAt m (extRow j 0 r + 8 * k + 0) 2 = nth o.c1 k ∧ bytesAt m (extRow j 0 r + 8 * k + 2) 2 = nth o.c0 (2 * k)
        ∧ bytesAt m (extRow j 0 r + 8 * k + 4) 2 = nth o.c2 k
        ∧ bytesAt m (extRow j 0 r + 8 * k + 6) 2 = nth o.c0 (2 * k + 1))

/-- `PACK.NV12` and `PACK.YV12`: luma of every row in buffer 0; of odd rows the chroma at chroma row `(r - 1) / 2` of
`ROI.H / 2`, interleaved in buffer 1, or V in buffer 1 and U in buffer 2 (R142, R144, R103, R46). -/
def Obligations.PackedPlanar420RowsPlaceSamples : Prop :=
  PackRowPlaces .packNv12 .nv12 (fun j r o m =>
      (∀ x : Nat, x < j.fw → bytesAt m (extRow j 0 r + x) 1 = nth o.c0 x)
        ∧ (r % 2 = 1 → ∀ k : Nat, k < j.fw / 2 →
          bytesAt m (extRowOf j 1 ((r - 1) / 2) (j.h / 2) + 2 * k) 1 = nth o.c1 k
            ∧ bytesAt m (extRowOf j 1 ((r - 1) / 2) (j.h / 2) + 2 * k + 1) 1 = nth o.c2 k))
    ∧ PackRowPlaces .packYv12 .yv12 (fun j r o m =>
      (∀ x : Nat, x < j.fw → bytesAt m (extRow j 0 r + x) 1 = nth o.c0 x)
        ∧ (r % 2 = 1 → ∀ k : Nat, k < j.fw / 2 →
          bytesAt m (extRowOf j 1 ((r - 1) / 2) (j.h / 2) + k) 1 = nth o.c2 k
            ∧ bytesAt m (extRowOf j 2 ((r - 1) / 2) (j.h / 2) + k) 1 = nth o.c1 k))

/-- `PACK.V210`: twelve 10-bit samples of six pixels in four words, at bits 0, 10 and 20, bits 31:30 zero (R138).
`PACK.AVID_2_8`: the two low bits of the samples U, Y0, V, Y1 of a pair in one byte of buffer 0, their eight high bits in
four bytes of buffer 1 (R146). -/
def Obligations.Packed10BitYuvRowsPlaceSamples : Prop :=
  PackRowPlaces .packV210 .v210 (fun j r o m => ∀ g : Nat, g < j.fw / 6 →
    bytesAt m (extRow j 0 r + 16 * g + 0) 4
        = nth o.c1 (3 * g) + nth o.c0 (6 * g) * 2 ^ 10 + nth o.c2 (3 * g) * 2 ^ 20
      ∧ bytesAt m (extRow j 0 r + 16 * g + 4) 4
        = nth o.c0 (6 * g + 1) + nth o.c1 (3 * g + 1) * 2 ^ 10 + nth o.c0 (6 * g + 2) * 2 ^ 20
      ∧ bytesAt m (extRow j 0 r + 16 * g + 8) 4
        = nth o.c2 (3 * g + 1) + nth o.c0 (6 * g + 3) * 2 ^ 10 + nth o.c1 (3 * g + 2) * 2 ^ 20
      ∧ bytesAt m (extRow j 0 r + 16 * g + 12) 4
        = nth o.c0 (6 * g + 4) + nth o.c2 (3 * g + 2) * 2 ^ 10 + nth o.c0 (6 * g + 5) * 2 ^ 20)
    ∧ PackRowPlaces .packAvid28 .avid28 (fun j r o m => ∀ k : Nat, k < j.fw / 2 →
    bytesAt m (extRow j 0 r + k) 1
        = nth o.c1 k % 4 + nth o.c0 (2 * k) % 4 * 4 + nth o.c2 k % 4 * 16 + nth o.c0 (2 * k + 1) % 4 * 64
      ∧ bytesAt m (extRow j 1 r + 4 * k + 0) 1 = nth o.c1 k / 4
      ∧ bytesAt m (extRow j 1 r + 4 * k + 1) 1 = nth o.c0 (2 * k) / 4
      ∧ bytesAt m (extRow j 1 r + 4 * k + 2) 1 = nth o.c2 k / 4
      ∧ bytesAt m (extRow j 1 r + 4 * k + 3) 1 = nth o.c0 (2 * k + 1) / 4)

/-- `PACK.RGB24`, `PACK.RGB32`, `PACK.RGBA32`, `PACK.RGB48`, `PACK.RGBA64`, `PACK.BGRA64` (R160, R162, R164, R166, R168,
R170); the fourth byte of `RGB32` is opaque in the image and 0 in the fill. -/
def Obligations.PackedRgbRowsPlaceSamples : Prop :=
  PackRowPlaces .packRgb24 .rgb24 (fun j r o m => ∀ x : Nat, x < j.fw →
      bytesAt m (extRow j 0 r + 3 * x + 0) 1 = nth o.c2 x ∧ bytesAt m (extRow j 0 r + 3 * x + 1) 1 = nth o.c1 x
        ∧ bytesAt m (extRow j 0 r + 3 * x + 2) 1 = nth o.c0 x)
    ∧ PackRowPlaces .packRgb32 .rgb32 (fun j r o m => ∀ x : Nat, x < j.fw →
      bytesAt m (extRow j 0 r + 4 * x + 0) 1 = nth o.c2 x ∧ bytesAt m (extRow j 0 r + 4 * x + 1) 1 = nth o.c1 x
        ∧ bytesAt m (extRow j 0 r + 4 * x + 2) 1 = nth o.c0 x
        ∧ bytesAt m (extRow j 0 r + 4 * x + 3) 1 = if x < j.w then 0xFF else 0)
    ∧ PackRowPlaces .packRgba32 .rgba32 (fun j r o m => ∀ x : Nat, x < j.fw →
      bytesAt m (extRow j 0 r + 4 * x + 0) 1 = nth o.c2 x ∧ bytesAt m (extRow j 0 r + 4 * x + 1) 1 = nth o.c1 x
        ∧ bytesAt m (extRow j 0 r + 4 * x + 2) 1 = nth o.c0 x ∧ bytesAt m (extRow j 0 r + 4 * x + 3) 1 = nth o.a x)
    ∧ PackRowPlaces .packRgb48 .rgb48 (fun j r o m => ∀ x : Nat, x < j.fw →
      bytesAt m (extRow j 0 r + 6 * x + 0) 2 = nth o.c0 x ∧ bytesAt m (extRow j 0 r + 6 * x + 2) 2 = nth o.c1 x
        ∧ bytesAt m (extRow j 0 r + 6 * x + 4) 2 = nth o.c2 x)
    ∧ PackRowPlaces .packRgba64 .rgba64 (fun j r o m => ∀ x : Nat, x < j.fw →
      bytesAt m (extRow j 0 r + 8 * x + 0) 2 = nth o.c0 x ∧ bytesAt m (extRow j 0 r + 8 * x + 2) 2 = nth o.c1 x
        ∧ bytesAt m (extRow j 0 r + 8 * x + 4) 2 = nth o.c2 x ∧ bytesAt m (extRow j 0 r + 8 * x + 6) 2 = nth o.a x)
    ∧ PackRowPlaces .packBgra64 .bgra64 (fun j r o m => ∀ x : Nat, x < j.fw →
      bytesAt m (extRow j 0 r + 8 * x + 0) 2 = nth o.c2 x ∧ bytesAt m (extRow j 0 r + 8 * x + 2) 2 = nth o.c1 x
        ∧ bytesAt m (extRow j 0 r + 8 * x + 4) 2 = nth o.c0 x ∧ bytesAt m (extRow j 0 r + 8 * x + 6) 2 = nth o.a x)

/-- The five 10:10:10 layouts: `RG30`, `AB10` and `AR10` as little-endian words (R172, R174, R176), `R210` and `DPX0` with
the most significant byte at the lowest address (R178, R180, R186). -/
def Obligations.Packed10BitRgbRowsPlaceSamples : Prop :=
  let bytesBe (m : Memory) (a : Int) : Nat :=
    bytesAt m a 1 * 2 ^ 24 + bytesAt m (a + 1) 1 * 2 ^ 16 + bytesAt m (a + 2) 1 * 2 ^ 8 + bytesAt m (a + 3) 1
  PackRowPlaces .packRg30 .rg30 (fun j r o m => ∀ x : Nat, x < j.fw →
      bytesAt m (extRow j 0 r + 4 * x) 4 = nth o.c0 x + nth o.c1 x * 2 ^ 10 + nth o.c2 x * 2 ^ 20)
    ∧ PackRowPlaces .packAb10 .ab10 (fun j r o m => ∀ x : Nat, x < j.fw →
      bytesAt m (extRow j 0 r + 4 * x) 4 = nth o.c0 x + nth o.c1 x * 2 ^ 10 + nth o.c2 x * 2 ^ 20)
    ∧ PackRowPlaces .packAr10 .ar10 (fun j r o m => ∀ x : Nat, x < j.fw →
      bytesAt m (extRow j 0 r + 4 * x) 4 = nth o.c2 x + nth o.c1 x * 2 ^ 10 + nth o.c0 x * 2 ^ 20)
    ∧ PackRowPlaces .packR210 .r210 (fun j r o m => ∀ x : Nat, x < j.fw →
      bytesBe m (extRow j 0 r + 4 * x) = nth o.c2 x + nth o.c1 x * 2 ^ 10 + nth o.c0 x * 2 ^ 20)
    ∧ PackRowPlaces .packDpx0 .dpx0 (fun j r o m => ∀ x : Nat, x < j.fw →
      bytesBe m (extRow j 0 r + 4 * x) = nth o.c0 x * 2 ^ 22 + nth o.c1 x * 2 ^ 12 + nth o.c2 x * 2 ^ 2)

/-- `PACK.RGB8P` and `PACK.RGBA8P`: groups of eight 16-bit samples of each channel (R182, R184). -/
def Obligations.Packed8PixelRowsPlaceSamples : Prop :=
  PackRowPlaces .packRgb8p .rgb8p (fun j r o m => ∀ g i : Nat, g < j.fw / 8 → i < 8 →
      bytesAt m (extRow j 0 r + 48 * g + 0 + 2 * i) 2 = nth o.c0 (8 * g + i)
        ∧ bytesAt m (extRow j 0 r + 48 * g + 16 + 2 * i) 2 = nth o.c1 (8 * g + i)
        ∧ bytesAt m (extRow j 0 r + 48 * g + 32 + 2 * i) 2 = nth o.c2 (8 * g + i))
    ∧ PackRowPlaces .packRgba8p .rgba8p (fun j r o m => ∀ g i : Nat, g < j.fw / 8 → i < 8 →
      bytesAt m (extRow j 0 r + 64 * g + 0 + 2 * i) 2 = nth o.c0 (8 * g + i)
        ∧ bytesAt m (extRow j 0 r + 64 * g + 16 + 2 * i) 2 = nth o.c1 (8 * g + i)
        ∧ bytesAt m (extRow j 0 r + 64 * g + 32 + 2 * i) 2 = nth o.c2 (8 * g + i)
        ∧ bytesAt m (extRow j 0 r + 64 * g + 48 + 2 * i) 2 = nth o.a (8 * g + i))

/-! ## UNPACK rows -/

/-- `UNPACK.YUYV`, `UNPACK.UYVY`, `UNPACK.YU64`, `UNPACK.AVID_2_14`, `UNPACK.AVID_10_6`: the fields a row takes and the
planes it leaves (R135, R137, R141, R149, R151). -/
def Obligations.UnpackedYuv422RowsTakeFields : Prop :=
  UnpackRowTakes .unpackYuyv .yuyv (fun j r m a => a.fits .yuyv j.w ∧ ∀ k : Nat, k < j.w / 2 →
      nth a.c0 (2 * k) = bytesAt m (extRow j 0 r + 4 * k + 0) 1 ∧ nth a.c1 k = bytesAt m (extRow j 0 r + 4 * k + 1) 1
        ∧ nth a.c0 (2 * k + 1) = bytesAt m (extRow j 0 r + 4 * k + 2) 1
        ∧ nth a.c2 k = bytesAt m (extRow j 0 r + 4 * k + 3) 1)
    ∧ UnpackRowTakes .unpackUyvy .uyvy (fun j r m a => a.fits .uyvy j.w ∧ ∀ k : Nat, k < j.w / 2 →
      nth a.c1 k = bytesAt m (extRow j 0 r + 4 * k + 0) 1 ∧ nth a.c0 (2 * k) = bytesAt m (extRow j 0 r + 4 * k + 1) 1
        ∧ nth a.c2 k = bytesAt m (extRow j 0 r + 4 * k + 2) 1
        ∧ nth a.c0 (2 * k + 1) = bytesAt m (extRow j 0 r + 4 * k + 3) 1)
    ∧ UnpackRowTakes .unpackYu64 .yu64 (fun j r m a => a.fits .yu64 j.w ∧ ∀ k : Nat, k < j.w / 2 →
      nth a.c0 (2 * k) = bytesAt m (extRow j 0 r + 8 * k + 0) 2 ∧ nth a.c1 k = bytesAt m (extRow j 0 r + 8 * k + 2) 2
        ∧ nth a.c0 (2 * k + 1) = bytesAt m (extRow j 0 r + 8 * k + 4) 2
        ∧ nth a.c2 k = bytesAt m (extRow j 0 r + 8 * k + 6) 2)
    ∧ UnpackRowTakes .unpackAvid214 .avid214 (fun j r m a => a.fits .avid214 j.w ∧ ∀ k : Nat, k < j.w / 2 →
      nth a.c1 k = bytesAt m (extRow j 0 r + 8 * k + 0) 2 % 2 ^ 14
        ∧ nth a.c0 (2 * k) = bytesAt m (extRow j 0 r + 8 * k + 2) 2 % 2 ^ 14
        ∧ nth a.c2 k = bytesAt m (extRow j 0 r + 8 * k + 4) 2 % 2 ^ 14
        ∧ nth a.c0 (2 * k + 1) = bytesAt m (extRow j 0 r + 8 * k + 6) 2 % 2 ^ 14)
    ∧ UnpackRowTakes .unpackAvid106 .avid106 (fun j r m a => a.fits .avid106 j.w ∧ ∀ k : Nat, k < j.w / 2 →
      nth a.c1 k = bytesAt m (extRow j 0 r + 8 * k + 0) 2 ∧ nth a.c0 (2 * k) = bytesAt m (extRow j 0 r + 8 * k + 2) 2
        ∧ nth a.c2 k = bytesAt m (extRow j 0 r + 8 * k + 4) 2
        ∧ nth a.c0 (2 * k + 1) = bytesAt m (extRow j 0 r + 8 * k + 6) 2)

/-- `UNPACK.V210`: the fields at bits 9:0, 19:10 and 29:20 of the four words of a group (R139). `UNPACK.AVID_2_8`: each
sample's eight high bits from buffer 1 and two low bits from buffer 0 (R147). -/
def Obligations.Unpacked10BitYuvRowsTakeFields : Prop :=
  UnpackRowTakes .unpackV210 .v210 (fun j r m a => a.fits .v210 j.w ∧ ∀ g : Nat, g < j.w / 6 →
    let w (i : Nat) : Nat := bytesAt m (extRow j 0 r + 16 * g + 4 * i) 4
    nth a.c1 (3 * g) = w 0 % 2 ^ 10 ∧ nth a.c0 (6 * g) = w 0 / 2 ^ 10 % 2 ^ 10 ∧ nth a.c2 (3 * g) = w 0 / 2 ^ 20 % 2 ^ 10
      ∧ nth a.c0 (6 * g + 1) = w 1 % 2 ^ 10 ∧ nth a.c1 (3 * g + 1) = w 1 / 2 ^ 10 % 2 ^ 10
      ∧ nth a.c0 (6 * g + 2) = w 1 / 2 ^ 20 % 2 ^ 10
      ∧ nth a.c2 (3 * g + 1) = w 2 % 2 ^ 10 ∧ nth a.c0 (6 * g + 3) = w 2 / 2 ^ 10 % 2 ^ 10
      ∧ nth a.c1 (3 * g + 2) = w 2 / 2 ^ 20 % 2 ^ 10
      ∧ nth a.c0 (6 * g + 4) = w 3 % 2 ^ 10 ∧ nth a.c2 (3 * g + 2) = w 3 / 2 ^ 10 % 2 ^ 10
      ∧ nth a.c0 (6 * g + 5) = w 3 / 2 ^ 20 % 2 ^ 10)
    ∧ UnpackRowTakes .unpackAvid28 .avid28 (fun j r m a => a.fits .avid28 j.w ∧ ∀ k : Nat, k < j.w / 2 →
    let lo := bytesAt m (extRow j 0 r + k) 1
    nth a.c1 k = bytesAt m (extRow j 1 r + 4 * k + 0) 1 * 4 + lo % 4
      ∧ nth a.c0 (2 * k) = bytesAt m (extRow j 1 r + 4 * k + 1) 1 * 4 + lo / 4 % 4
      ∧ nth a.c2 k = bytesAt m (extRow j 1 r + 4 * k + 2) 1 * 4 + lo / 16 % 4
      ∧ nth a.c0 (2 * k + 1) = bytesAt m (extRow j 1 r + 4 * k + 3) 1 * 4 + lo / 64 % 4)

/-- `UNPACK.RGB24`, `UNPACK.RGB32`, `UNPACK.RGBA32`, `UNPACK.RGB48`, `UNPACK.RGBA64`, `UNPACK.BGRA64` (R161, R163, R165,
R167, R169, R171); the fourth byte of `RGB32` has no effect. -/
def Obligations.UnpackedRgbRowsTakeFields : Prop :=
  UnpackRowTakes .unpackRgb24 .rgb24 (fun j r m a => a.fits .rgb24 j.w ∧ ∀ x : Nat, x < j.w →
      nth a.c2 x = bytesAt m (extRow j 0 r + 3 * x + 0) 1 ∧ nth a.c1 x = bytesAt m (extRow j 0 r + 3 * x + 1) 1
        ∧ nth a.c0 x = bytesAt m (extRow j 0 r + 3 * x + 2) 1)
    ∧ UnpackRowTakes .unpackRgb32 .rgb32 (fun j r m a => a.fits .rgb32 j.w ∧ ∀ x : Nat, x < j.w →
      nth a.c2 x = bytesAt m (extRow j 0 r + 4 * x + 0) 1 ∧ nth a.c1 x = bytesAt m (extRow j 0 r + 4 * x + 1) 1
        ∧ nth a.c0 x = bytesAt m (extRow j 0 r + 4 * x + 2) 1)
    ∧ UnpackRowTakes .unpackRgba32 .rgba32 (fun j r m a => a.fits .rgba32 j.w ∧ ∀ x : Nat, x < j.w →
      nth a.c2 x = bytesAt m (extRow j 0 r + 4 * x + 0) 1 ∧ nth a.c1 x = bytesAt m (extRow j 0 r + 4 * x + 1) 1
        ∧ nth a.c0 x = bytesAt m (extRow j 0 r + 4 * x + 2) 1 ∧ nth a.a x = bytesAt m (extRow j 0 r + 4 * x + 3) 1)
    ∧ UnpackRowTakes .unpackRgb48 .rgb48 (fun j r m a => a.fits .rgb48 j.w ∧ ∀ x : Nat, x < j.w →
      nth a.c0 x = bytesAt m (extRow j 0 r + 6 * x + 0) 2 ∧ nth a.c1 x = bytesAt m (extRow j 0 r + 6 * x + 2) 2
        ∧ nth a.c2 x = bytesAt m (extRow j 0 r + 6 * x + 4) 2)
    ∧ UnpackRowTakes .unpackRgba64 .rgba64 (fun j r m a => a.fits .rgba64 j.w ∧ ∀ x : Nat, x < j.w →
      nth a.c0 x = bytesAt m (extRow j 0 r + 8 * x + 0) 2 ∧ nth a.c1 x = bytesAt m (extRow j 0 r + 8 * x + 2) 2
        ∧ nth a.c2 x = bytesAt m (extRow j 0 r + 8 * x + 4) 2 ∧ nth a.a x = bytesAt m (extRow j 0 r + 8 * x + 6) 2)
    ∧ UnpackRowTakes .unpackBgra64 .bgra64 (fun j r m a => a.fits .bgra64 j.w ∧ ∀ x : Nat, x < j.w →
      nth a.c2 x = bytesAt m (extRow j 0 r + 8 * x + 0) 2 ∧ nth a.c1 x = bytesAt m (extRow j 0 r + 8 * x + 2) 2
        ∧ nth a.c0 x = bytesAt m (extRow j 0 r + 8 * x + 4) 2 ∧ nth a.a x = bytesAt m (extRow j 0 r + 8 * x + 6) 2)

/-- The five 10:10:10 layouts (R173, R175, R177, R179, R181): the two bits that carry no colour are ignored. -/
def Obligations.Unpacked10BitRgbRowsTakeFields : Prop :=
  let bytesBe (m : Memory) (a : Int) : Nat :=
    bytesAt m a 1 * 2 ^ 24 + bytesAt m (a + 1) 1 * 2 ^ 16 + bytesAt m (a + 2) 1 * 2 ^ 8 + bytesAt m (a + 3) 1
  let at10 (w p : Nat) : Nat := w / 2 ^ p % 2 ^ 10
  UnpackRowTakes .unpackRg30 .rg30 (fun j r m a => a.fits .rg30 j.w ∧ ∀ x : Nat, x < j.w →
      let w := bytesAt m (extRow j 0 r + 4 * x) 4
      nth a.c0 x = at10 w 0 ∧ nth a.c1 x = at10 w 10 ∧ nth a.c2 x = at10 w 20)
    ∧ UnpackRowTakes .unpackAb10 .ab10 (fun j r m a => a.fits .ab10 j.w ∧ ∀ x : Nat, x < j.w →
      let w := bytesAt m (extRow j 0 r + 4 * x) 4
      nth a.c0 x = at10 w 0 ∧ nth a.c1 x = at10 w 10 ∧ nth a.c2 x = at10 w 20)
    ∧ UnpackRowTakes .unpackAr10 .ar10 (fun j r m a => a.fits .ar10 j.w ∧ ∀ x : Nat, x < j.w →
      let w := bytesAt m (extRow j 0 r + 4 * x) 4
      nth a.c2 x = at10 w 0 ∧ nth a.c1 x = at10 w 10 ∧ nth a.c0 x = at10 w 20)
    ∧ UnpackRowTakes .unpackR210 .r210 (fun j r m a => a.fits .r210 j.w ∧ ∀ x : Nat, x < j.w →
      let w := bytesBe m (extRow j 0 r + 4 * x)
      nth a.c2 x = at10 w 0 ∧ nth a.c1 x = at10 w 10 ∧ nth a.c0 x = at10 w 20)
    ∧ UnpackRowTakes .unpackDpx0 .dpx0 (fun j r m a => a.fits .dpx0 j.w ∧ ∀ x : Nat, x < j.w →
      let w := bytesBe m (extRow j 0 r + 4 * x)
      nth a.c0 x = at10 w 22 ∧ nth a.c1 x = at10 w 12 ∧ nth a.c2 x = at10 w 2)

/-- `UNPACK.RGB8P` and `UNPACK.RGBA8P` (R183, R185). -/
def Obligations.Unpacked8PixelRowsTakeFields : Prop :=
  UnpackRowTakes .unpackRgb8p .rgb8p (fun j r m a => a.fits .rgb8p j.w ∧ ∀ g i : Nat, g < j.w / 8 → i < 8 →
      nth a.c0 (8 * g + i) = bytesAt m (extRow j 0 r + 48 * g + 0 + 2 * i) 2
        ∧ nth a.c1 (8 * g + i) = bytesAt m (extRow j 0 r + 48 * g + 16 + 2 * i) 2
        ∧ nth a.c2 (8 * g + i) = bytesAt m (extRow j 0 r + 48 * g + 32 + 2 * i) 2)
    ∧ UnpackRowTakes .unpackRgba8p .rgba8p (fun j r m a => a.fits .rgba8p j.w ∧ ∀ g i : Nat, g < j.w / 8 → i < 8 →
      nth a.c0 (8 * g + i) = bytesAt m (extRow j 0 r + 64 * g + 0 + 2 * i) 2
        ∧ nth a.c1 (8 * g + i) = bytesAt m (extRow j 0 r + 64 * g + 16 + 2 * i) 2
        ∧ nth a.c2 (8 * g + i) = bytesAt m (extRow j 0 r + 64 * g + 32 + 2 * i) 2
        ∧ nth a.a (8 * g + i) = bytesAt m (extRow j 0 r + 64 * g + 48 + 2 * i) 2)

/-- For every layout that both directions serve, extracting what placement wrote gives the samples back (R130, R131,
R125). -/
def Obligations.ExtractInvertsPlace : Prop :=
  ∀ (p : Platform) (j : Job) (r : Nat) (o : Arrays) (m : Memory), j.fmt ≠ .nv12 → j.fmt ≠ .yv12 → Memory.wf m = true →
    j.fw = j.w → j.w % fmtPeriod j.fmt = 0 → o.fits j.fmt j.w → o.inRange (fmtDepth j.fmt) →
    SpansOk p (extSpans j j.w r) → selfMeets (extSpans j j.w r) = false →
    extractOf j.fmt (memRead p (storeBytes m ((placeOf j.fmt j r o).flatMap Wr.bytes))) j r = some o

/-! ## The samples of a row -/

/-- `Convert` pixel by pixel, without the correction (R203, R95, R100 to R104, R71): what each output sample is made of, for
every pair of structures. The width is even where the input's chroma is halved, as R192 requires; else it is any. -/
def Obligations.ConvertFollowsStructures : Prop :=
  ∀ (k : C709Record) (j : Job) (a : Rows),
    let b := convert k j a
    let y (x : Nat) : Int := nth a.c0 x
    let u (x : Nat) : Int := nth a.c1 x
    let v (x : Nat) : Int := nth a.c2 x
    let up (c : Nat → Int) (x : Nat) : Int :=
      if j.q.ups = true ∧ x % 2 = 1 ∧ x / 2 + 1 < j.w / 2 then (c (x / 2) + c (x / 2 + 1)) / 2 else c (x / 2)
    let rgb (x : Nat) : Int × Int × Int := (nth b.c0 x, nth b.c1 x, nth b.c2 x)
    j.q.c709 = false →
      (j.inner = .yuv422 → j.w % 2 = 0 → j.outer ∈ [.rgb, .rgba] →
          ∀ x < j.w, rgb x = y2r j.dw j.e.y2r (y x) (up u x) (up v x))
        ∧ (j.inner = .yuv422 → j.w % 2 = 0 → j.outer = .yuv444 → ∀ x < j.w, rgb x = (y x, up u x, up v x))
        ∧ (j.inner = .yuv444 → j.outer ∈ [.rgb, .rgba] → ∀ x < j.w, rgb x = y2r j.dw j.e.y2r (y x) (u x) (v x))
        ∧ (j.inner ∈ [.rgb, .rgba] → j.outer = .yuv444 → ∀ x < j.w, rgb x = r2y j.dw j.e.r2y (y x) (u x) (v x))
        ∧ (j.inner ∈ [.rgb, .rgba] → j.outer ∈ [.yuv422, .yuv420] →
          (∀ x < j.w, nth b.c0 x = (r2y j.dw j.e.r2y (y x) (u x) (v x)).1)
            ∧ ∀ i < j.w / 2,
              let p := r2y j.dw j.e.r2y (y (2 * i)) (u (2 * i)) (v (2 * i))
              let n := r2y j.dw j.e.r2y (y (2 * i + 1)) (u (2 * i + 1)) (v (2 * i + 1))
              nth b.c1 i = (p.2.1 + n.2.1 + 1) / 2 ∧ nth b.c2 i = (p.2.2 + n.2.2 + 1) / 2)
        ∧ (j.inner = .yuv444 → j.outer ∈ [.yuv422, .yuv420] → b.c0 = a.c0 ∧ ∀ i < j.w / 2,
            nth b.c1 i = (u (2 * i) + u (2 * i + 1) + 1) / 2 ∧ nth b.c2 i = (v (2 * i) + v (2 * i + 1) + 1) / 2)
        ∧ ((j.inner = .yuv422 ∧ j.outer ∈ [.yuv422, .yuv420]) ∨ (j.inner = .yuv444 ∧ j.outer = .yuv444)
            ∨ (j.inner ∈ [.rgb, .rgba] ∧ j.outer ∈ [.rgb, .rgba]) → b = a)

/-- The correction is applied to the input samples, before anything else, from the pair's own chroma, and to YUV inputs only
(R96, R93, R203 step 1). -/
def Obligations.CorrectionComesFirst : Prop :=
  ∀ (k : C709Record) (j : Job) (a : Rows), j.inner ≠ .yuv420 →
    let half : Nat := if j.inner = .yuv422 then 2 else 1
    let corrected : Rows :=
      { c0 := tabulate j.w fun x => (c709 j.dw k (nth a.c0 x) (nth a.c1 (x / half)) (nth a.c2 (x / half))).1
        c1 := tabulate (j.w / half) fun i => (c709 j.dw k (nth a.c0 i) (nth a.c1 i) (nth a.c2 i)).2.1
        c2 := tabulate (j.w / half) fun i => (c709 j.dw k (nth a.c0 i) (nth a.c1 i) (nth a.c2 i)).2.2 }
    let plain : Job := { j with q := { j.q with c709 := false } }
    (j.inner.isYuv = true → j.q.c709 = true → convert k j a = convert k plain corrected)
      ∧ (j.inner.isYuv = false → convert k j a = convert k plain a)

/-- In mode `OFF` the exit stage is plain truncation, makes no draw, and keeps the columns of each channel; the chroma of an
even row of a 4:2:0 output is discarded (R112, R121, R103, R194 steps 3 and 4). -/
def Obligations.OffModeExitTruncates : Prop :=
  ∀ (t : Act) (j : Job) (r : Nat) (b : Rows) (al : List Int) (ds : Draws), j.mode = .off → RowsInRange j.dw b →
    let o := exitRow t j r b al ds
    let cut (v : Int) : Nat := (v / 2 ^ (j.dw - j.dout)).toNat
    o.2 = ds ∧ (∀ x < j.w, nth o.1.c0 x = cut (nth b.c0 x))
      ∧ (j.outer.halfChroma = false → ∀ x < j.w, nth o.1.c1 x = cut (nth b.c1 x) ∧ nth o.1.c2 x = cut (nth b.c2 x))
      ∧ (j.outer.halfChroma = true → j.outer ≠ .yuv420 ∨ r % 2 = 1 →
          ∀ i < j.w / 2, nth o.1.c1 i = cut (nth b.c1 i) ∧ nth o.1.c2 i = cut (nth b.c2 i))
      ∧ (j.outer = .yuv420 → r % 2 = 0 → o.1.c1 = [] ∧ o.1.c2 = [])

/-- The output alpha in mode `OFF` (R117, R118, R122, R123, R206): opaque where the input has none, a fourth colour where it
is linear, decompanded on PACK and companded on UNPACK where it is companded. -/
def Obligations.OffModeAlphaPath : Prop :=
  ∀ (t : Act) (j : Job) (r : Nat) (b : Rows) (al : List Int) (ds : Draws) (x : Nat), j.mode = .off →
    j.alphaOut = true → x < j.w →
    let out : Int := nth (exitRow t j r b al ds).1.a x
    let decomp (st : Int) : Int := sat 16 ((st * 2 ^ t.fs - t.dc) * t.gain / 2 ^ t.ns)
    let comp (lin : Int) : Int := sat 16 (lin * t.cgain / 2 ^ t.cshift + t.coff)
    (j.alphaIn = false → j.dir = .unpack ∧ j.q.acomp = true → out = comp 65535 / 2 ^ (16 - j.s))
      ∧ (j.alphaIn = false → ¬ (j.dir = .unpack ∧ j.q.acomp = true) → out = 2 ^ j.dout - 1)
      ∧ (j.alphaIn = true → j.q.acomp = false →
          out = sat j.din (nth al x) * 2 ^ (j.dw - j.din) / 2 ^ (j.dw - j.dout))
      ∧ (j.alphaIn = true → j.q.acomp = true → j.dir = .pack →
          out = decomp (sat j.s (nth al x) * 2 ^ (16 - j.s)) / 2 ^ (16 - j.dext))
      ∧ (j.alphaIn = true → j.q.acomp = true → j.dir = .unpack →
          out = comp (nth al x * 2 ^ (16 - j.dext)) / 2 ^ (16 - j.s))

/-- Every output sample of a row that is narrowed is `BDR.NARROW` of its working value with the row's draw at its own place
in the order of R114, in every mode, and the row makes no other draw: `before x` draws come before pixel `x`; then its luma
and, at even `x`, the chroma pair where chroma is halved, or its three colours and its alpha. A sample kept at its depth, a
narrowing by one bit and a constant alpha make no draw (R111 to R114, R121 to R123, R206). The `k`-th draw is the top
`sh - 1` bits of the `k + 1`-th state of the generator in mode `SEEDED`, the next free value in mode `FREE`, 0 in `OFF`. -/
def Obligations.RowSamplesTakeDrawsInOrder : Prop :=
  ∀ (t : Act) (j : Job) (r : Nat) (b : Rows) (al : List Int) (ds : Draws),
    let o := exitRow t j r b al ds
    let decomp (st : Int) : Int := sat 16 ((st * 2 ^ t.fs - t.dc) * t.gain / 2 ^ t.ns)
    let comp (lin : Int) : Int := sat 16 (lin * t.cgain / 2 ^ t.cshift + t.coff)
    let kept : Nat := if j.outer ≠ .yuv420 ∨ r % 2 = 1 then 1 else 0
    let alphaDepth : Nat := if j.q.acomp then 16 else j.dw
    let one : Nat := if j.dw - j.dout < 2 then 0 else 1
    let alpha : Nat := if j.alphaOut = true ∧ j.alphaIn = true ∧ 2 ≤ alphaDepth - j.dout then 1 else 0
    let before (x : Nat) : Nat :=
      if j.outer.halfChroma then one * (x + 2 * kept * ((x + 1) / 2)) else (3 * one + alpha) * x
    let value (k sh : Nat) : Nat := match j.mode with
      | .seeded => (seededNext^[k + 1] ds.dstate).toNat / 2 ^ (33 - sh)
      | .free => Config.ditherSrc (ds.ctr + k) % 2 ^ (sh - 1)
      | .off => 0
    let cut (v : Int) (d k : Nat) : Nat :=
      if d ≤ j.dout then v.toNat else (narrow v d j.dout (value k (d - j.dout))).toNat
    let source (a : Int) : Int :=
      if !j.q.acomp then sat j.din a * 2 ^ (j.dw - j.din)
      else if j.dir = .pack then decomp (sat j.s a * 2 ^ (16 - j.s))
      else comp (a * 2 ^ (16 - j.dext))
    (∀ x < j.w, nth o.1.c0 x = cut (nth b.c0 x) j.dw (before x))
      ∧ (j.outer.halfChroma = false → ∀ x < j.w,
          nth o.1.c1 x = cut (nth b.c1 x) j.dw (before x + one)
            ∧ nth o.1.c2 x = cut (nth b.c2 x) j.dw (before x + 2 * one))
      ∧ (j.outer.halfChroma = true → kept = 1 → ∀ i < (j.w + 1) / 2,
          nth o.1.c1 i = cut (nth b.c1 i) j.dw (before (2 * i) + one)
            ∧ nth o.1.c2 i = cut (nth b.c2 i) j.dw (before (2 * i) + 2 * one))
      ∧ (kept = 0 → o.1.c1 = [] ∧ o.1.c2 = [])
      ∧ (j.alphaOut = true → ∀ x < j.w, nth o.1.a x =
          if j.alphaIn then cut (source (nth al x)) alphaDepth (before x + 3 * one)
          else if j.dir = .unpack ∧ j.q.acomp = true then (comp 65535 / 2 ^ (16 - j.s)).toNat else 2 ^ j.dout - 1)
      ∧ o.2 = match j.mode with
        | .seeded => { ds with dstate := seededNext^[before j.w] ds.dstate }
        | .free => { ds with ctr := ds.ctr + before j.w }
        | .off => ds

/-- Every output sample is in `0 .. 2^D - 1` of its side, for every table, every input and every draw (R94, R111, R130,
R220). -/
def Obligations.OutputSamplesInRange : Prop :=
  (∀ (f : Fmt) (q : ReqFields) (c : ReqRegs) (s : State) (j : Job) (r : Nat) (o : Arrays) (ds : Draws),
      prepare s.cmt .pack f q c = .ok j → packOutput s j r = some (o, ds) → o.inRange j.dext)
    ∧ (∀ (f : Fmt) (q : ReqFields) (c : ReqRegs) (s : State) (j : Job) (r : Nat) (a : Arrays),
      prepare s.cmt .unpack f q c = .ok j → a.inRange j.dext → (unpackOutput s j r a).1.inRange j.s)

/-- The fill of a PACK row (R133): luma 16 and chroma 128 scaled to the depth, or zero RGB and zero alpha, from `ROI.W` to
`FRAME.W`; no chroma in an even row of a 4:2:0 layout. -/
def Obligations.FillExtendsRowsToFrameWidth : Prop :=
  ∀ (f : Fmt) (q : ReqFields) (c : ReqRegs) (s : State) (j : Job) (r : Nat) (o : Arrays) (ds : Draws),
    prepare s.cmt .pack f q c = .ok j → packOutput s j r = some (o, ds) →
    (j.kind.isYuv = true →
        o.c0.length = j.fw ∧ (∀ x, j.w ≤ x → x < j.fw → nth o.c0 x = 16 * 2 ^ (j.dext - 8))
          ∧ (j.kind = .yuv420 → r % 2 = 0 → o.c1 = [] ∧ o.c2 = [])
          ∧ (j.kind ≠ .yuv420 ∨ r % 2 = 1 → o.c1.length = j.fw / 2 ∧ o.c2.length = j.fw / 2
            ∧ ∀ i, j.w / 2 ≤ i → i < j.fw / 2 →
              nth o.c1 i = 128 * 2 ^ (j.dext - 8) ∧ nth o.c2 i = 128 * 2 ^ (j.dext - 8)))
      ∧ (j.kind.isYuv = false →
        o.c0.length = j.fw ∧ o.c1.length = j.fw ∧ o.c2.length = j.fw
          ∧ (∀ x, j.w ≤ x → x < j.fw → nth o.c0 x = 0 ∧ nth o.c1 x = 0 ∧ nth o.c2 x = 0)
          ∧ (j.kind = .rgba → o.a.length = j.fw ∧ ∀ x, j.w ≤ x → x < j.fw → nth o.a x = 0)
          ∧ (j.kind = .rgb → o.a = []))

/-- Between equal structures, without correction or companding, and without narrowing, a request copies its samples, shifted
to the output depth, whatever the dither mode (R104, R110, R120, R121, R203). -/
def Obligations.EqualStructuresCopySamples : Prop :=
  (∀ (f : Fmt) (q : ReqFields) (c : ReqRegs) (s : State) (j : Job) (r : Nat) (o : Arrays) (ds : Draws),
      prepare s.cmt .pack f q c = .ok j → packOutput s j r = some (o, ds) → j.fam = j.kind → q.c709 = false →
      q.acomp = false → j.s ≤ j.dext → ∀ ch ∈ familyChans q.pfam, ∀ x < ncols j.fam j.w ch,
        nth (o.chan ch) x = clampedSample s.mem j ch r x * 2 ^ (j.dext - j.s))
    ∧ (∀ (f : Fmt) (q : ReqFields) (c : ReqRegs) (s : State) (j : Job) (r : Nat) (a : Arrays),
      prepare s.cmt .unpack f q c = .ok j → j.fam = j.kind → q.c709 = false → q.acomp = false → j.dext ≤ j.s →
      a.inRange j.dext → ∀ ch ∈ familyChans q.pfam, ∀ x < ncols j.fam j.w ch,
        nth ((unpackOutput s j r a).1.chan ch) x = nth (a.chan ch) x * 2 ^ (j.s - j.dext))

/-- The addresses all row statements speak of, read from the bits of the latched registers: a channel's one slot by its tag
(R20), its row and column by base, sign-extended pitch and one or two bytes a sample (R19, R42, R43); the row of an external
buffer by base and sign-extended pitch, in reverse order where `VFLIP` is set (R21, R46); the chroma row of an odd row of a
4:2:0 layout among `ROI.H / 2` (R46, R142); and the sizes (R15, R16). -/
def Obligations.AddressesFollowLatchedRegisters : Prop :=
  ∀ (t : Cmt) (d : Dir) (f : Fmt) (q : ReqFields) (c : ReqRegs) (j : Job), prepare t d f q c = .ok j →
    let signed (w : Word) : Int := if w.getLsbD 31 then (w.toNat : Int) - 2 ^ 32 else w.toNat
    let h : Nat := (c.roi.extractLsb' 16 16).toNat
    let flip (rows r : Nat) : Int := if q.vflip then (rows : Int) - 1 - r else r
    j.w = (c.roi.extractLsb' 0 16).toNat ∧ j.h = h ∧ j.fw = (c.frame.extractLsb' 0 16).toNat
      ∧ (∀ p ∈ [(Chan.y, 1), (Chan.u, 2), (Chan.v, 3), (Chan.r, 4), (Chan.g, 5), (Chan.b, 6), (Chan.a, 7)],
          p.1 ∈ familyChans q.pfam → ∃ i : Fin 4, (∀ k : Fin 4, (c.planeTag[k].extractLsb' 0 3).toNat = p.2 ↔ k = i)
            ∧ ∀ r x : Nat, planeAddr j p.1 r x
              = c.planeBase[i].toNat + r * signed c.planePitch[i] + x * (if q.pdepth = 0 then 1 else 2))
      ∧ ∀ (b : Fin 3) (r : Nat),
          extRow j b r = c.extBase[b].toNat + flip h r * signed c.extPitch[b]
            ∧ (r % 2 = 1 → chromaRow j b r = c.extBase[b].toNat + flip (h / 2) ((r - 1) / 2) * signed c.extPitch[b]
              ∧ chromaRow j b r = extRowOf j b ((r - 1) / 2) (j.h / 2))

/-! ## Single operations -/

/-- Worked examples of the colour matrix transform with the default table of R84 and R87, which is PRESUMED (log 6), by
the formulas of R90, R91, R92, R93. -/
def Obligations.ColourMatrixWorkedExamples : Prop :=
  let t := Cmt.default
  presat 8 t.e601cg.y2r 255 0 250 = (235, 16, 240) ∧ presat 10 t.e601cg.y2r 1023 0 1000 = (940, 64, 960)
    ∧ y2r 8 t.e601cg.y2r 81 90 240 = (254, 0, 0) ∧ y2r 8 t.e601cg.y2r 180 100 200 = (255, 143, 134)
    ∧ y2r 8 t.e709vs.y2r 180 100 200 = (255, 151, 129) ∧ y2r 16 t.e601cg.y2r 46080 25600 51200 = (65535, 36696, 34424)
    ∧ r2y 8 t.e601cg.r2y 255 255 255 = (235, 128, 128) ∧ r2y 8 t.e601cg.r2y 255 0 0 = (82, 90, 240)
    ∧ r2y 8 t.e709cg.r2y 255 0 0 = (63, 102, 240) ∧ r2y 8 t.e709vs.r2y 0 0 255 = (18, 255, 116)
    ∧ c709 8 t.c709 100 90 200 = (89, 97, 198) ∧ c709 10 t.c709 400 360 800 = (357, 390, 795)

/-- What holds between the chroma up-samplers and the down-sampler (R105). -/
def Obligations.DownsamplingAfterUpsampling : Prop :=
  ∀ (c : List Int) (n : Nat), c.length = n → 1 ≤ n →
    crsDown (crsRep c n) n = c
      ∧ nth (crsDown (crsUp c n) n) (n - 1) = nth c (n - 1)
      ∧ ∀ i, i + 1 < n →
        let x := nth c i
        let x' := nth c (i + 1)
        let r := nth (crsDown (crsUp c n) n) i
        r = (x + (x + x') / 2 + 1) / 2 ∧ (|x' - x| ≤ 1 → r = x) ∧ min x x' ≤ r ∧ r ≤ max x x'

/-- Clamping a signed sample and narrowing it as unsigned gives the result of the biased signed operation (R116). -/
def Obligations.SignedNarrowingEquivalence : Prop :=
  ∀ (v : Int) (s t d : Nat), 1 ≤ t → t < s → d < 2 ^ (s - t - 1) → narrow (sat s v) s t d = snarrow v s t d

/-- Narrowing undoes widening, for every draw (R125). -/
def Obligations.NarrowingUndoesWidening : Prop :=
  ∀ (v : Int) (s t d : Nat), t < s → 0 ≤ v → v < 2 ^ t → d < 2 ^ (s - t - 1) → narrow (widen v t s) s t d = v

/-- A draw (R112, R113): always below `2^(sh-1)`; nothing is consumed for `sh <= 1` or in mode `OFF`; in mode `SEEDED` the
state is multiplied and added to, and the draw is its top `sh - 1` bits; in mode `FREE` the seed is kept. -/
def Obligations.DrawsStayInDeclaredRange : Prop :=
  ∀ (m : DitherMode) (sh : Nat) (ds : Draws),
    (draw m sh ds).1 < 2 ^ (sh - 1)
      ∧ (sh ≤ 1 ∨ m = .off → draw m sh ds = (0, ds))
      ∧ (2 ≤ sh → sh ≤ 33 → m = .seeded →
        let w := (ds.dstate.toNat * 1664525 + 1013904223) % 2 ^ 32
        (draw m sh ds).1 = w / 2 ^ (33 - sh) ∧ (draw m sh ds).2.dstate.toNat = w)
      ∧ (m = .free → (draw m sh ds).2.dstate = ds.dstate)

/-- `bswap32` moves byte `i` to byte `3 - i` and is its own inverse (R186). -/
def Obligations.ByteSwapReversesBytes : Prop :=
  ∀ w : Nat, w < 2 ^ 32 →
    bswap32 w < 2 ^ 32 ∧ bswap32 (bswap32 w) = w
      ∧ ∀ i < 4, bswap32 w / 256 ^ (3 - i) % 256 = w / 256 ^ i % 256

/-- `MemRead` answers exactly the accesses inside the space that touch no unbacked byte, with the little-endian sum of the
bytes (R41, R50). -/
def Obligations.MemoryReadsAreLittleEndian : Prop :=
  ∀ (p : Platform) (m : Memory) (a : Int) (n : Nat), n ∈ [1, 2, 4] →
    ((memRead p m a n).isSome = true ↔ 0 ≤ a ∧ a + n ≤ 2 ^ 32
        ∧ ∀ r ∈ p.unbacked, ∀ i : Nat, i < n → ¬ ((r.base : Int) ≤ a + i ∧ a + i < r.base + r.size))
      ∧ ∀ v, memRead p m a n = some v →
        v = ∑ i ∈ Finset.range n, (loadByte m (a.toNat + i)).toNat * 256 ^ i

/-- A `MemWrite` changes exactly its bytes: byte `v[8i+7:8i]` at `addr + i`; memory keeps its canonical form (R41). -/
def Obligations.MemoryWritesChangeTheirBytesOnly : Prop :=
  ∀ (m : Memory) (w : Wr), Memory.wf m = true → 0 ≤ w.addr →
    let m' := storeBytes m w.bytes
    Memory.wf m' = true ∧ (∀ i < w.n, (loadByte m' (w.addr.toNat + i)).toNat = w.v / 256 ^ i % 256)
      ∧ ∀ a : Nat, (a < w.addr.toNat ∨ w.addr.toNat + w.n ≤ a) → loadByte m' a = loadByte m a
end

