-- ==== Sys2Proof/Laws/Memory.lean ====
section
/-!
SUPPORT. The laws of memory: read after write, the frame of a write, and that every memory operation keeps the canonical
form and the memory space (20_memory.md R40, R41).
-/

namespace Sys2Proof.Machine

/-! ### One byte -/

theorem loadByte_of_lt {lo : Nat} {m : Memory} (h : memoryWfFrom lo m = true) {a : Nat} (ha : a < lo) :
    loadByte m a = background := by
  induction m generalizing lo with
  | nil => rfl
  | cons c t ih =>
    obtain ⟨k, v⟩ := c
    simp only [memoryWfFrom, Bool.and_eq_true, decide_eq_true_eq] at h
    simp only [loadByte]
    rw [if_neg (by omega)]
    exact ih h.2 (by omega)

theorem memoryWfFrom_mono {lo lo' : Nat} {m : Memory} (h : memoryWfFrom lo m = true) (hl : lo' ≤ lo) :
    memoryWfFrom lo' m = true := by
  cases m with
  | nil => rfl
  | cons c t =>
    simp only [memoryWfFrom, Bool.and_eq_true, decide_eq_true_eq] at h ⊢
    exact ⟨⟨by omega, h.1.2⟩, h.2⟩

/-- Read after write. -/
theorem loadByte_storeByte_self {lo : Nat} {m : Memory} (h : memoryWfFrom lo m = true) (a : Nat) (b : Byte) :
    loadByte (storeByte m a b) a = b := by
  induction m generalizing lo with
  | nil =>
    by_cases hb : b = background <;> simp [storeByte, loadByte, hb]
  | cons c t ih =>
    obtain ⟨k, v⟩ := c
    simp only [memoryWfFrom, Bool.and_eq_true, decide_eq_true_eq] at h
    simp only [storeByte]
    split
    · split
      · subst b; simp only [loadByte]; rw [if_neg (by omega)]; exact loadByte_of_lt h.2 (by omega)
      · simp [loadByte]
    · split
      · split
        · subst b; exact loadByte_of_lt h.2 (by omega)
        · simp [loadByte]
      · simp only [loadByte]; rw [if_neg (by assumption)]; exact ih h.2

/-- A write leaves every other byte alone. -/
theorem loadByte_storeByte_of_ne (m : Memory) {a c : Nat} (b : Byte) (hc : c ≠ a) :
    loadByte (storeByte m a b) c = loadByte m c := by
  induction m with
  | nil => by_cases hb : b = background <;> simp [storeByte, loadByte, hb, hc]
  | cons x t ih =>
    obtain ⟨k, v⟩ := x
    simp only [storeByte]
    split
    · split
      · rfl
      · simp [loadByte, hc]
    · split
      · subst a
        split <;> simp [loadByte, hc]
      · simp only [loadByte, ih]

theorem memoryWfFrom_storeByte {lo : Nat} {m : Memory} (h : memoryWfFrom lo m = true) {a : Nat} (ha : lo ≤ a) (b : Byte) :
    memoryWfFrom lo (storeByte m a b) = true := by
  induction m generalizing lo with
  | nil => by_cases hb : b = background <;> simp [storeByte, memoryWfFrom, hb, ha]
  | cons c t ih =>
    obtain ⟨k, v⟩ := c
    have h' := h
    simp only [memoryWfFrom, Bool.and_eq_true, decide_eq_true_eq] at h'
    obtain ⟨⟨hk, hv⟩, ht⟩ := h'
    simp only [storeByte]
    split
    · split
      · exact h
      · rename_i h1 h2
        simp only [memoryWfFrom, Bool.and_eq_true, decide_eq_true_eq]
        exact ⟨⟨ha, h2⟩, ⟨by omega, hv⟩, ht⟩
    · split
      · subst a
        split
        · exact memoryWfFrom_mono ht (by omega)
        · rename_i h2
          simp only [memoryWfFrom, Bool.and_eq_true, decide_eq_true_eq]
          exact ⟨⟨ha, h2⟩, ht⟩
      · simp only [memoryWfFrom, Bool.and_eq_true, decide_eq_true_eq]
        exact ⟨⟨hk, hv⟩, ih ht (by omega)⟩

/-- A byte write keeps the canonical form. -/
theorem wf_storeByte {m : Memory} (h : Memory.wf m = true) (a : Nat) (b : Byte) : Memory.wf (storeByte m a b) = true :=
  memoryWfFrom_storeByte h (Nat.zero_le a) b

/-- A byte write inside the space keeps memory inside it. -/
theorem inSpace_storeByte {m : Memory} (h : Memory.inSpace m = true) {a : Nat} (ha : a < 2 ^ 32) (b : Byte) :
    Memory.inSpace (storeByte m a b) = true := by
  induction m with
  | nil => by_cases hb : b = background <;> simp [storeByte, Memory.inSpace, hb]; omega
  | cons c t ih =>
    obtain ⟨k, v⟩ := c
    have h' := h
    simp only [Memory.inSpace, List.all_cons, Bool.and_eq_true, decide_eq_true_eq] at h'
    simp only [storeByte]
    split
    · split
      · exact h
      · simp only [Memory.inSpace, List.all_cons, Bool.and_eq_true, decide_eq_true_eq]; exact ⟨ha, h'⟩
    · split
      · split
        · exact h'.2
        · simp only [Memory.inSpace, List.all_cons, Bool.and_eq_true, decide_eq_true_eq]; exact ⟨ha, h'.2⟩
      · simp only [Memory.inSpace, List.all_cons, Bool.and_eq_true, decide_eq_true_eq]; exact ⟨h'.1, ih h'.2⟩

/-- The memory of the reset state is in canonical form, with nothing listed. -/
theorem reset_mem_wf : Memory.wf State.reset.mem = true := rfl

/-! ### Lists of bytes -/

@[simp] theorem storeBytes_nil (m : Memory) : storeBytes m [] = m := rfl

@[simp] theorem storeBytes_cons (m : Memory) (x : Int × Byte) (l : List (Int × Byte)) :
    storeBytes m (x :: l) = storeBytes (storeByte m x.1.toNat x.2) l := rfl

theorem storeBytes_append (m : Memory) (l l' : List (Int × Byte)) :
    storeBytes m (l ++ l') = storeBytes (storeBytes m l) l' := by
  simp [storeBytes, List.foldl_append]

theorem wf_storeBytes {m : Memory} (h : Memory.wf m = true) (l : List (Int × Byte)) :
    Memory.wf (storeBytes m l) = true := by
  induction l generalizing m with
  | nil => exact h
  | cons x l ih => exact ih (wf_storeByte h _ _)

/-- Stores leave an address alone that none of them names. -/
theorem loadByte_storeBytes_of_forall_ne (m : Memory) (l : List (Int × Byte)) {a : Nat} (h : ∀ x ∈ l, x.1.toNat ≠ a) :
    loadByte (storeBytes m l) a = loadByte m a := by
  induction l generalizing m with
  | nil => rfl
  | cons x l ih =>
    rw [storeBytes_cons, ih _ fun y hy => h y (List.mem_cons_of_mem _ hy)]
    exact loadByte_storeByte_of_ne m _ fun e => h x List.mem_cons_self e.symm

/-- Stores at pairwise different addresses: each byte then reads as stored. -/
theorem loadByte_storeBytes_of_mem {m : Memory} (hm : Memory.wf m = true) {l : List (Int × Byte)}
    (hl : l.Pairwise fun x y => x.1.toNat ≠ y.1.toNat) {x : Int × Byte} (hx : x ∈ l) :
    loadByte (storeBytes m l) x.1.toNat = x.2 := by
  induction l generalizing m with
  | nil => cases hx
  | cons y l ih =>
    rw [List.pairwise_cons] at hl
    rw [storeBytes_cons]
    rcases List.mem_cons.1 hx with rfl | hx
    · rw [loadByte_storeBytes_of_forall_ne _ _ fun z hz => (hl.1 z hz).symm]
      exact loadByte_storeByte_self hm _ _
    · exact ih (wf_storeByte hm _ _) hl.2 hx

/-- Whatever the stores, a byte reads as before or as one of them wrote it. -/
theorem loadByte_storeBytes_cases {m : Memory} (hm : Memory.wf m = true) (l : List (Int × Byte)) (a : Nat) :
    loadByte (storeBytes m l) a = loadByte m a ∨ ∃ x ∈ l, x.1.toNat = a ∧ loadByte (storeBytes m l) a = x.2 := by
  induction l generalizing m with
  | nil => exact .inl rfl
  | cons x l ih =>
    rw [storeBytes_cons]
    rcases ih (wf_storeByte hm x.1.toNat x.2) with h | ⟨y, hy, h⟩
    · by_cases hx : x.1.toNat = a
      · refine .inr ⟨x, List.mem_cons_self, hx, ?_⟩
        rw [h, ← hx]; exact loadByte_storeByte_self hm _ _
      · exact .inl (h.trans (loadByte_storeByte_of_ne m _ fun e => hx e.symm))
    · exact .inr ⟨y, List.mem_cons_of_mem _ hy, h⟩

theorem wf_storeSome (p : Platform) (l : List (Int × Byte)) {m : Memory} (h : Memory.wf m = true) (k : Nat) :
    Memory.wf (storeSome p l m k).1 = true := by
  induction l generalizing m k with
  | nil => exact h
  | cons x l ih =>
    simp only [storeSome]
    split
    · exact ih (wf_storeByte h _ _) _
    · exact ih h _

theorem wf_storeFree (p : Platform) (l : List Int) {m : Memory} (h : Memory.wf m = true) (k : Nat) :
    Memory.wf (storeFree p l m k).1 = true := by
  induction l generalizing m k with
  | nil => exact h
  | cons x l ih =>
    simp only [storeFree]
    split
    · exact ih (wf_storeByte h _ _) _
    · exact ih h _

/-- An answered access lies inside the space. -/
theorem accessOk_bounds {p : Platform} {a : Int} {n : Nat} (h : accessOk p a n = true) : 0 ≤ a ∧ a + n ≤ 2 ^ 32 := by
  simp only [accessOk, Bool.and_eq_true, decide_eq_true_eq] at h
  exact h.1

theorem inSpace_storeFree (p : Platform) (l : List Int) {m : Memory} (h : Memory.inSpace m = true) (k : Nat) :
    Memory.inSpace (storeFree p l m k).1 = true := by
  induction l generalizing m k with
  | nil => exact h
  | cons x l ih =>
    simp only [storeFree]
    split
    · rename_i hx
      exact ih (inSpace_storeByte h (by have := accessOk_bounds hx; omega) _) _
    · exact ih h _

theorem inSpace_storeSome (p : Platform) (l : List (Int × Byte)) {m : Memory} (h : Memory.inSpace m = true) (k : Nat) :
    Memory.inSpace (storeSome p l m k).1 = true := by
  induction l generalizing m k with
  | nil => exact h
  | cons x l ih =>
    simp only [storeSome]
    split
    · rename_i hx
      rw [Bool.and_eq_true] at hx
      exact ih (inSpace_storeByte h (by have := accessOk_bounds hx.1; omega) _) _
    · exact ih h _

/-- Making spans unspecified leaves an address outside them alone. -/
theorem loadByte_storeFree_of_not_mem (p : Platform) (l : List Int) (m : Memory) (k : Nat) {a : Nat} (h : (a : Int) ∉ l) :
    loadByte (storeFree p l m k).1 a = loadByte m a := by
  induction l generalizing m k with
  | nil => rfl
  | cons x l ih =>
    simp only [storeFree]
    rw [ih _ _ fun hm => h (List.mem_cons_of_mem _ hm)]
    split
    · rename_i hx
      have := accessOk_bounds hx
      exact loadByte_storeByte_of_ne m _ fun e => h (by rw [e, Int.toNat_of_nonneg this.1]; exact List.mem_cons_self)
    · rfl

/-- A partly written row leaves an address that none of its bytes names alone. -/
theorem loadByte_storeSome_of_forall_ne (p : Platform) (l : List (Int × Byte)) (m : Memory) (k : Nat) {a : Nat}
    (h : ∀ x ∈ l, x.1 ≠ (a : Int)) : loadByte (storeSome p l m k).1 a = loadByte m a := by
  induction l generalizing m k with
  | nil => rfl
  | cons x l ih =>
    simp only [storeSome]
    rw [ih _ _ fun y hy => h y (List.mem_cons_of_mem _ hy)]
    split
    · rename_i hx
      rw [Bool.and_eq_true] at hx
      have := accessOk_bounds hx.1
      exact loadByte_storeByte_of_ne m _ fun e => h x List.mem_cons_self (by omega)
    · rfl

/-! ### Spans -/

/-- The addresses of spans are the addresses they cover. -/
theorem mem_flatMap_addresses (ss : List Span) (a : Int) : a ∈ ss.flatMap Span.addresses ↔ Covers ss a := by
  simp only [List.mem_flatMap, Covers, Span.addresses, tabulate, List.mem_map, List.mem_range]
  constructor
  · rintro ⟨sp, hs, i, hi, rfl⟩
    exact ⟨sp, hs, by omega, by omega⟩
  · rintro ⟨sp, hs, h1, h2⟩
    exact ⟨sp, hs, (a - sp.start).toNat, by omega, by omega⟩

/-- Making spans unspecified leaves every byte outside them alone. -/
theorem loadByte_unspecify (ss : List Span) (s : State) {a : Nat} (h : ¬ Covers ss a) :
    loadByte (unspecify ss s).mem a = loadByte s.mem a :=
  loadByte_storeFree_of_not_mem _ _ _ _ fun hm => h ((mem_flatMap_addresses ss a).1 hm)

end Sys2Proof.Machine
end

