-- ==== Sys2Proof/Laws/State.lean ====
section
/-!
SUPPORT. The small lemmas of the record updates of `State`: one lemma per field per update, true by `rfl`, so that no later
proof unfolds an update.
-/

namespace Sys2Proof.Machine

/-! ### `takeError` -/

@[simp] theorem takeError_regs (e : ErrCode) (s : State) : (takeError e s).regs = s.regs := rfl
@[simp] theorem takeError_ie (e : ErrCode) (s : State) : (takeError e s).ie = s.ie := rfl
@[simp] theorem takeError_busy (e : ErrCode) (s : State) : (takeError e s).busy = false := rfl
@[simp] theorem takeError_done (e : ErrCode) (s : State) : (takeError e s).done = true := rfl
@[simp] theorem takeError_err (e : ErrCode) (s : State) : (takeError e s).err = e := rfl
@[simp] theorem takeError_row (e : ErrCode) (s : State) : (takeError e s).row = s.row := rfl
@[simp] theorem takeError_cur (e : ErrCode) (s : State) : (takeError e s).cur = s.cur := rfl
@[simp] theorem takeError_dstate (e : ErrCode) (s : State) : (takeError e s).dstate = s.dstate := rfl
@[simp] theorem takeError_cmt (e : ErrCode) (s : State) : (takeError e s).cmt = s.cmt := rfl
@[simp] theorem takeError_act (e : ErrCode) (s : State) : (takeError e s).act = s.act := rfl
@[simp] theorem takeError_mem (e : ErrCode) (s : State) : (takeError e s).mem = s.mem := rfl
@[simp] theorem takeError_platform (e : ErrCode) (s : State) : (takeError e s).platform = s.platform := rfl
@[simp] theorem takeError_rst (e : ErrCode) (s : State) : (takeError e s).rst = s.rst := rfl
@[simp] theorem takeError_host (e : ErrCode) (s : State) : (takeError e s).host = s.host := rfl
@[simp] theorem takeError_readData (e : ErrCode) (s : State) : (takeError e s).readData = s.readData := rfl
@[simp] theorem takeError_tainted (e : ErrCode) (s : State) : (takeError e s).tainted = s.tainted := rfl
@[simp] theorem takeError_freeCtr (e : ErrCode) (s : State) : (takeError e s).freeCtr = s.freeCtr := rfl

/-! ### `takeConfigError` -/

@[simp] theorem takeConfigError_regs (e : ErrCode) (s : State) : (takeConfigError e s).regs = s.regs := rfl
@[simp] theorem takeConfigError_ie (e : ErrCode) (s : State) : (takeConfigError e s).ie = s.ie := rfl
@[simp] theorem takeConfigError_busy (e : ErrCode) (s : State) : (takeConfigError e s).busy = false := rfl
@[simp] theorem takeConfigError_done (e : ErrCode) (s : State) : (takeConfigError e s).done = true := rfl
@[simp] theorem takeConfigError_err (e : ErrCode) (s : State) : (takeConfigError e s).err = e := rfl
@[simp] theorem takeConfigError_row (e : ErrCode) (s : State) : (takeConfigError e s).row = 0 := rfl
@[simp] theorem takeConfigError_cur (e : ErrCode) (s : State) : (takeConfigError e s).cur = s.cur := rfl
@[simp] theorem takeConfigError_dstate (e : ErrCode) (s : State) : (takeConfigError e s).dstate = s.dstate := rfl
@[simp] theorem takeConfigError_cmt (e : ErrCode) (s : State) : (takeConfigError e s).cmt = s.cmt := rfl
@[simp] theorem takeConfigError_act (e : ErrCode) (s : State) : (takeConfigError e s).act = s.act := rfl
@[simp] theorem takeConfigError_mem (e : ErrCode) (s : State) : (takeConfigError e s).mem = s.mem := rfl
@[simp] theorem takeConfigError_platform (e : ErrCode) (s : State) : (takeConfigError e s).platform = s.platform := rfl
@[simp] theorem takeConfigError_rst (e : ErrCode) (s : State) : (takeConfigError e s).rst = s.rst := rfl
@[simp] theorem takeConfigError_host (e : ErrCode) (s : State) : (takeConfigError e s).host = s.host := rfl
@[simp] theorem takeConfigError_readData (e : ErrCode) (s : State) : (takeConfigError e s).readData = s.readData := rfl
@[simp] theorem takeConfigError_tainted (e : ErrCode) (s : State) : (takeConfigError e s).tainted = s.tainted := rfl
@[simp] theorem takeConfigError_freeCtr (e : ErrCode) (s : State) : (takeConfigError e s).freeCtr = s.freeCtr := rfl

/-! ### `takeReadError` -/

@[simp] theorem takeReadError_regs (s : State) : (takeReadError s).regs = s.regs := rfl
@[simp] theorem takeReadError_ie (s : State) : (takeReadError s).ie = s.ie := rfl
@[simp] theorem takeReadError_busy (s : State) : (takeReadError s).busy = false := rfl
@[simp] theorem takeReadError_done (s : State) : (takeReadError s).done = true := rfl
@[simp] theorem takeReadError_err (s : State) : (takeReadError s).err = .bus := rfl
@[simp] theorem takeReadError_row (s : State) : (takeReadError s).row = s.row := rfl
@[simp] theorem takeReadError_cur (s : State) : (takeReadError s).cur = s.cur := rfl
@[simp] theorem takeReadError_dstate (s : State) : (takeReadError s).dstate = s.dstate := rfl
@[simp] theorem takeReadError_cmt (s : State) : (takeReadError s).cmt = s.cmt := rfl
@[simp] theorem takeReadError_act (s : State) : (takeReadError s).act = s.act := rfl
@[simp] theorem takeReadError_mem (s : State) : (takeReadError s).mem = s.mem := rfl
@[simp] theorem takeReadError_platform (s : State) : (takeReadError s).platform = s.platform := rfl
@[simp] theorem takeReadError_rst (s : State) : (takeReadError s).rst = s.rst := rfl
@[simp] theorem takeReadError_host (s : State) : (takeReadError s).host = s.host := rfl
@[simp] theorem takeReadError_readData (s : State) : (takeReadError s).readData = s.readData := rfl
@[simp] theorem takeReadError_tainted (s : State) : (takeReadError s).tainted = s.tainted := rfl
@[simp] theorem takeReadError_freeCtr (s : State) : (takeReadError s).freeCtr = s.freeCtr := rfl

/-! ### `takeWriteError` -/

@[simp] theorem takeWriteError_regs (ws : List Wr) (s : State) : (takeWriteError ws s).regs = s.regs := rfl
@[simp] theorem takeWriteError_ie (ws : List Wr) (s : State) : (takeWriteError ws s).ie = s.ie := rfl
@[simp] theorem takeWriteError_busy (ws : List Wr) (s : State) : (takeWriteError ws s).busy = false := rfl
@[simp] theorem takeWriteError_done (ws : List Wr) (s : State) : (takeWriteError ws s).done = true := rfl
@[simp] theorem takeWriteError_err (ws : List Wr) (s : State) : (takeWriteError ws s).err = .bus := rfl
@[simp] theorem takeWriteError_row (ws : List Wr) (s : State) : (takeWriteError ws s).row = s.row := rfl
@[simp] theorem takeWriteError_cur (ws : List Wr) (s : State) : (takeWriteError ws s).cur = s.cur := rfl
@[simp] theorem takeWriteError_dstate (ws : List Wr) (s : State) : (takeWriteError ws s).dstate = s.dstate := rfl
@[simp] theorem takeWriteError_cmt (ws : List Wr) (s : State) : (takeWriteError ws s).cmt = s.cmt := rfl
@[simp] theorem takeWriteError_act (ws : List Wr) (s : State) : (takeWriteError ws s).act = s.act := rfl
@[simp] theorem takeWriteError_mem (ws : List Wr) (s : State) : (takeWriteError ws s).mem = (storeSome s.platform (ws.flatMap Wr.bytes) s.mem s.freeCtr).1 := rfl
@[simp] theorem takeWriteError_platform (ws : List Wr) (s : State) : (takeWriteError ws s).platform = s.platform := rfl
@[simp] theorem takeWriteError_rst (ws : List Wr) (s : State) : (takeWriteError ws s).rst = s.rst := rfl
@[simp] theorem takeWriteError_host (ws : List Wr) (s : State) : (takeWriteError ws s).host = s.host := rfl
@[simp] theorem takeWriteError_readData (ws : List Wr) (s : State) : (takeWriteError ws s).readData = s.readData := rfl
@[simp] theorem takeWriteError_tainted (ws : List Wr) (s : State) : (takeWriteError ws s).tainted = s.tainted := rfl
@[simp] theorem takeWriteError_freeCtr (ws : List Wr) (s : State) : (takeWriteError ws s).freeCtr = (storeSome s.platform (ws.flatMap Wr.bytes) s.mem s.freeCtr).2 := rfl

/-! ### `complete` -/

@[simp] theorem complete_regs (s : State) : (complete s).regs = s.regs := rfl
@[simp] theorem complete_ie (s : State) : (complete s).ie = s.ie := rfl
@[simp] theorem complete_busy (s : State) : (complete s).busy = false := rfl
@[simp] theorem complete_done (s : State) : (complete s).done = true := rfl
@[simp] theorem complete_err (s : State) : (complete s).err = s.err := rfl
@[simp] theorem complete_row (s : State) : (complete s).row = s.row := rfl
@[simp] theorem complete_cur (s : State) : (complete s).cur = s.cur := rfl
@[simp] theorem complete_dstate (s : State) : (complete s).dstate = s.dstate := rfl
@[simp] theorem complete_cmt (s : State) : (complete s).cmt = s.cmt := rfl
@[simp] theorem complete_act (s : State) : (complete s).act = s.act := rfl
@[simp] theorem complete_mem (s : State) : (complete s).mem = s.mem := rfl
@[simp] theorem complete_platform (s : State) : (complete s).platform = s.platform := rfl
@[simp] theorem complete_rst (s : State) : (complete s).rst = s.rst := rfl
@[simp] theorem complete_host (s : State) : (complete s).host = s.host := rfl
@[simp] theorem complete_readData (s : State) : (complete s).readData = s.readData := rfl
@[simp] theorem complete_tainted (s : State) : (complete s).tainted = s.tainted := rfl
@[simp] theorem complete_freeCtr (s : State) : (complete s).freeCtr = s.freeCtr := rfl

/-! ### `clearStatus` -/

@[simp] theorem clearStatus_regs (s : State) : (clearStatus s).regs = s.regs := rfl
@[simp] theorem clearStatus_ie (s : State) : (clearStatus s).ie = s.ie := rfl
@[simp] theorem clearStatus_busy (s : State) : (clearStatus s).busy = s.busy := rfl
@[simp] theorem clearStatus_done (s : State) : (clearStatus s).done = false := rfl
@[simp] theorem clearStatus_err (s : State) : (clearStatus s).err = .none := rfl
@[simp] theorem clearStatus_row (s : State) : (clearStatus s).row = 0 := rfl
@[simp] theorem clearStatus_cur (s : State) : (clearStatus s).cur = s.cur := rfl
@[simp] theorem clearStatus_dstate (s : State) : (clearStatus s).dstate = s.dstate := rfl
@[simp] theorem clearStatus_cmt (s : State) : (clearStatus s).cmt = s.cmt := rfl
@[simp] theorem clearStatus_act (s : State) : (clearStatus s).act = s.act := rfl
@[simp] theorem clearStatus_mem (s : State) : (clearStatus s).mem = s.mem := rfl
@[simp] theorem clearStatus_platform (s : State) : (clearStatus s).platform = s.platform := rfl
@[simp] theorem clearStatus_rst (s : State) : (clearStatus s).rst = s.rst := rfl
@[simp] theorem clearStatus_host (s : State) : (clearStatus s).host = s.host := rfl
@[simp] theorem clearStatus_readData (s : State) : (clearStatus s).readData = s.readData := rfl
@[simp] theorem clearStatus_tainted (s : State) : (clearStatus s).tainted = s.tainted := rfl
@[simp] theorem clearStatus_freeCtr (s : State) : (clearStatus s).freeCtr = s.freeCtr := rfl

/-! ### `unspecify` -/

@[simp] theorem unspecify_regs (ss : List Span) (s : State) : (unspecify ss s).regs = s.regs := rfl
@[simp] theorem unspecify_ie (ss : List Span) (s : State) : (unspecify ss s).ie = s.ie := rfl
@[simp] theorem unspecify_busy (ss : List Span) (s : State) : (unspecify ss s).busy = s.busy := rfl
@[simp] theorem unspecify_done (ss : List Span) (s : State) : (unspecify ss s).done = s.done := rfl
@[simp] theorem unspecify_err (ss : List Span) (s : State) : (unspecify ss s).err = s.err := rfl
@[simp] theorem unspecify_row (ss : List Span) (s : State) : (unspecify ss s).row = s.row := rfl
@[simp] theorem unspecify_cur (ss : List Span) (s : State) : (unspecify ss s).cur = s.cur := rfl
@[simp] theorem unspecify_dstate (ss : List Span) (s : State) : (unspecify ss s).dstate = s.dstate := rfl
@[simp] theorem unspecify_cmt (ss : List Span) (s : State) : (unspecify ss s).cmt = s.cmt := rfl
@[simp] theorem unspecify_act (ss : List Span) (s : State) : (unspecify ss s).act = s.act := rfl
@[simp] theorem unspecify_mem (ss : List Span) (s : State) : (unspecify ss s).mem = (storeFree s.platform (ss.flatMap Span.addresses) s.mem s.freeCtr).1 := rfl
@[simp] theorem unspecify_platform (ss : List Span) (s : State) : (unspecify ss s).platform = s.platform := rfl
@[simp] theorem unspecify_rst (ss : List Span) (s : State) : (unspecify ss s).rst = s.rst := rfl
@[simp] theorem unspecify_host (ss : List Span) (s : State) : (unspecify ss s).host = s.host := rfl
@[simp] theorem unspecify_readData (ss : List Span) (s : State) : (unspecify ss s).readData = s.readData := rfl
@[simp] theorem unspecify_tainted (ss : List Span) (s : State) : (unspecify ss s).tainted = s.tainted := rfl
@[simp] theorem unspecify_freeCtr (ss : List Span) (s : State) : (unspecify ss s).freeCtr = (storeFree s.platform (ss.flatMap Span.addresses) s.mem s.freeCtr).2 := rfl

/-! ### `iePart` -/

@[simp] theorem iePart_regs (b : Bool) (s : State) : (iePart b s).regs = s.regs := rfl
@[simp] theorem iePart_ie (b : Bool) (s : State) : (iePart b s).ie = b := rfl
@[simp] theorem iePart_busy (b : Bool) (s : State) : (iePart b s).busy = s.busy := rfl
@[simp] theorem iePart_done (b : Bool) (s : State) : (iePart b s).done = s.done := rfl
@[simp] theorem iePart_err (b : Bool) (s : State) : (iePart b s).err = s.err := rfl
@[simp] theorem iePart_row (b : Bool) (s : State) : (iePart b s).row = s.row := rfl
@[simp] theorem iePart_cur (b : Bool) (s : State) : (iePart b s).cur = s.cur := rfl
@[simp] theorem iePart_dstate (b : Bool) (s : State) : (iePart b s).dstate = s.dstate := rfl
@[simp] theorem iePart_cmt (b : Bool) (s : State) : (iePart b s).cmt = s.cmt := rfl
@[simp] theorem iePart_act (b : Bool) (s : State) : (iePart b s).act = s.act := rfl
@[simp] theorem iePart_mem (b : Bool) (s : State) : (iePart b s).mem = s.mem := rfl
@[simp] theorem iePart_platform (b : Bool) (s : State) : (iePart b s).platform = s.platform := rfl
@[simp] theorem iePart_rst (b : Bool) (s : State) : (iePart b s).rst = s.rst := rfl
@[simp] theorem iePart_host (b : Bool) (s : State) : (iePart b s).host = s.host := rfl
@[simp] theorem iePart_readData (b : Bool) (s : State) : (iePart b s).readData = s.readData := rfl
@[simp] theorem iePart_tainted (b : Bool) (s : State) : (iePart b s).tainted = s.tainted := rfl
@[simp] theorem iePart_freeCtr (b : Bool) (s : State) : (iePart b s).freeCtr = s.freeCtr := rfl

/-! ### `resetRegisters` -/

@[simp] theorem resetRegisters_regs (s : State) : (resetRegisters s).regs = ReqRegs.zero := rfl
@[simp] theorem resetRegisters_ie (s : State) : (resetRegisters s).ie = false := rfl
@[simp] theorem resetRegisters_busy (s : State) : (resetRegisters s).busy = false := rfl
@[simp] theorem resetRegisters_done (s : State) : (resetRegisters s).done = false := rfl
@[simp] theorem resetRegisters_err (s : State) : (resetRegisters s).err = .none := rfl
@[simp] theorem resetRegisters_row (s : State) : (resetRegisters s).row = 0 := rfl
@[simp] theorem resetRegisters_cur (s : State) : (resetRegisters s).cur = ReqRegs.zero := rfl
@[simp] theorem resetRegisters_dstate (s : State) : (resetRegisters s).dstate = 1 := rfl
@[simp] theorem resetRegisters_cmt (s : State) : (resetRegisters s).cmt = s.cmt := rfl
@[simp] theorem resetRegisters_act (s : State) : (resetRegisters s).act = s.act := rfl
@[simp] theorem resetRegisters_mem (s : State) : (resetRegisters s).mem = s.mem := rfl
@[simp] theorem resetRegisters_platform (s : State) : (resetRegisters s).platform = s.platform := rfl
@[simp] theorem resetRegisters_rst (s : State) : (resetRegisters s).rst = s.rst := rfl
@[simp] theorem resetRegisters_host (s : State) : (resetRegisters s).host = s.host := rfl
@[simp] theorem resetRegisters_readData (s : State) : (resetRegisters s).readData = s.readData := rfl
@[simp] theorem resetRegisters_tainted (s : State) : (resetRegisters s).tainted = false := rfl
@[simp] theorem resetRegisters_freeCtr (s : State) : (resetRegisters s).freeCtr = s.freeCtr := rfl

/-! ### `assertReset` -/

@[simp] theorem assertReset_regs (s : State) : (assertReset s).regs = ReqRegs.zero := rfl
@[simp] theorem assertReset_ie (s : State) : (assertReset s).ie = false := rfl
@[simp] theorem assertReset_busy (s : State) : (assertReset s).busy = false := rfl
@[simp] theorem assertReset_done (s : State) : (assertReset s).done = false := rfl
@[simp] theorem assertReset_err (s : State) : (assertReset s).err = .none := rfl
@[simp] theorem assertReset_row (s : State) : (assertReset s).row = 0 := rfl
@[simp] theorem assertReset_cur (s : State) : (assertReset s).cur = ReqRegs.zero := rfl
@[simp] theorem assertReset_dstate (s : State) : (assertReset s).dstate = 1 := rfl
@[simp] theorem assertReset_cmt (s : State) : (assertReset s).cmt = s.cmt := rfl
@[simp] theorem assertReset_act (s : State) : (assertReset s).act = s.act := rfl
@[simp] theorem assertReset_mem (s : State) : (assertReset s).mem = (unspecify (runningWrites s) s).mem := rfl
@[simp] theorem assertReset_platform (s : State) : (assertReset s).platform = s.platform := rfl
@[simp] theorem assertReset_rst (s : State) : (assertReset s).rst = true := rfl
@[simp] theorem assertReset_host (s : State) : (assertReset s).host = s.host := rfl
@[simp] theorem assertReset_readData (s : State) : (assertReset s).readData = s.readData := rfl
@[simp] theorem assertReset_tainted (s : State) : (assertReset s).tainted = false := rfl
@[simp] theorem assertReset_freeCtr (s : State) : (assertReset s).freeCtr = (unspecify (runningWrites s) s).freeCtr := rfl

/-! ### `hostStore` -/

@[simp] theorem hostStore_regs (s : State) (a : Word) (b : Byte) : (hostStore s a b).regs = s.regs := rfl
@[simp] theorem hostStore_ie (s : State) (a : Word) (b : Byte) : (hostStore s a b).ie = s.ie := rfl
@[simp] theorem hostStore_busy (s : State) (a : Word) (b : Byte) : (hostStore s a b).busy = s.busy := rfl
@[simp] theorem hostStore_done (s : State) (a : Word) (b : Byte) : (hostStore s a b).done = s.done := rfl
@[simp] theorem hostStore_err (s : State) (a : Word) (b : Byte) : (hostStore s a b).err = s.err := rfl
@[simp] theorem hostStore_row (s : State) (a : Word) (b : Byte) : (hostStore s a b).row = s.row := rfl
@[simp] theorem hostStore_cur (s : State) (a : Word) (b : Byte) : (hostStore s a b).cur = s.cur := rfl
@[simp] theorem hostStore_dstate (s : State) (a : Word) (b : Byte) : (hostStore s a b).dstate = s.dstate := rfl
@[simp] theorem hostStore_cmt (s : State) (a : Word) (b : Byte) : (hostStore s a b).cmt = s.cmt := rfl
@[simp] theorem hostStore_act (s : State) (a : Word) (b : Byte) : (hostStore s a b).act = s.act := rfl
@[simp] theorem hostStore_mem (s : State) (a : Word) (b : Byte) : (hostStore s a b).mem = storeByte s.mem a.toNat b := rfl
@[simp] theorem hostStore_platform (s : State) (a : Word) (b : Byte) : (hostStore s a b).platform = s.platform := rfl
@[simp] theorem hostStore_rst (s : State) (a : Word) (b : Byte) : (hostStore s a b).rst = s.rst := rfl
@[simp] theorem hostStore_host (s : State) (a : Word) (b : Byte) : (hostStore s a b).host = s.host := rfl
@[simp] theorem hostStore_readData (s : State) (a : Word) (b : Byte) : (hostStore s a b).readData = s.readData := rfl
@[simp] theorem hostStore_tainted (s : State) (a : Word) (b : Byte) : (hostStore s a b).tainted = (s.tainted || inSpans a.toNat (runningReads s ++ runningWrites s)) := rfl
@[simp] theorem hostStore_freeCtr (s : State) (a : Word) (b : Byte) : (hostStore s a b).freeCtr = s.freeCtr := rfl

end Sys2Proof.Machine
end

