-- ==== Sys2Proof/Laws/Ops.lean ====
section
/-!
SUPPORT. For each shared operation, once, everything it can do: the provers cite these and unfold no operation.
-/

namespace Sys2Proof.Machine

/-! ### Memory accesses -/

theorem accessOk_iff (p : Platform) (a : Int) (n : Nat) :
    accessOk p a n = true ↔ 0 ≤ a ∧ a + n ≤ 2 ^ 32 ∧ ∀ r ∈ p.unbacked, Span.meets ⟨a, n⟩ r.span = false := by
  simp [accessOk, and_assoc]

/-- `MemRead` answers exactly where the access is answered, with the value of the bytes. -/
theorem memRead_eq_some_iff (p : Platform) (m : Memory) (a : Int) (n v : Nat) :
    memRead p m a n = some v ↔ accessOk p a n = true ∧ bytesAt m a n = v := by
  simp only [memRead, bytesAt]
  split <;> simp_all

theorem memRead_eq_none_iff (p : Platform) (m : Memory) (a : Int) (n : Nat) :
    memRead p m a n = none ↔ accessOk p a n = false := by
  simp only [memRead]
  split <;> simp_all

@[simp] theorem tabulate_length {α : Type} (n : Nat) (f : Nat → α) : (tabulate n f).length = n := by simp [tabulate]

theorem mem_tabulate {α : Type} {n : Nat} {f : Nat → α} {x : α} : x ∈ tabulate n f ↔ ∃ i < n, f i = x := by
  simp [tabulate]

@[simp] theorem nth_tabulate {α : Type} [Inhabited α] {n : Nat} (f : Nat → α) {i : Nat} (h : i < n) :
    nth (tabulate n f) i = f i := by
  simp [nth, tabulate, List.getD, h]

/-- All reads of a list succeed exactly where it is the list of their values. -/
theorem allSome_eq_some_iff {α : Type} (l : List (Option α)) (r : List α) : allSome l = some r ↔ l = r.map some := by
  induction l generalizing r with
  | nil => cases r <;> simp [allSome]
  | cons x l ih =>
    cases x with
    | none => cases r <;> simp [allSome]
    | some a =>
      cases r with
      | nil => simp [allSome]
      | cons b r =>
        simp only [allSome, Option.map_eq_some_iff, List.cons.injEq, List.map_cons, Option.some.injEq]
        constructor
        · rintro ⟨l', h1, rfl, rfl⟩; exact ⟨rfl, (ih l').1 h1⟩
        · rintro ⟨rfl, h⟩; exact ⟨r, (ih r).2 h, rfl, rfl⟩

/-- The bytes of a write lie at its addresses. -/
theorem mem_bytes {w : Wr} {x : Int × Byte} (h : x ∈ w.bytes) : w.addr ≤ x.1 ∧ x.1 < w.addr + w.n := by
  obtain ⟨i, hi, rfl⟩ := mem_tabulate.1 h
  simp only
  omega

/-! ### The engine's step -/

/-- `settle` leaves the state as it is, or makes the write footprint unspecified. -/
theorem settle_cases (j : Job) (s : State) :
    (settle j s = s ∧ overlaps j = false ∧ s.tainted = false) ∨ settle j s = unspecify (writeFootprint j) s := by
  simp only [settle]
  split
  · exact .inr rfl
  · rename_i h
    simp only [Bool.or_eq_true, not_or, Bool.not_eq_true] at h
    exact .inl ⟨rfl, h⟩

/-- What a row step can do: end with a bus error on a read, complete the row, or end with a bus error on a write. -/
theorem rowStep_cases (row : State → Job → Nat → RowResult) (j : Job) (s : State) :
    (row s j s.row.toNat = none ∧ rowStep row j s = settle j (takeReadError s))
      ∨ ∃ ws ds, row s j s.row.toNat = some (ws, ds) ∧
        ((writesOk s.platform ws = true ∧ rowStep row j s =
            { s with dstate := ds.dstate, freeCtr := ds.ctr, mem := storeBytes s.mem (ws.flatMap Wr.bytes),
                     row := s.row + 1 })
          ∨ (writesOk s.platform ws = false ∧ rowStep row j s =
            settle j (takeWriteError ws { s with dstate := ds.dstate, freeCtr := ds.ctr }))) := by
  simp only [rowStep]
  split
  · exact .inl ⟨by assumption, rfl⟩
  · rename_i ws ds h
    refine .inr ⟨ws, ds, h, ?_⟩
    split
    · exact .inl ⟨by assumption, rfl⟩
    · rename_i h'
      exact .inr ⟨by simpa using h', rfl⟩

/-- What the engine's step on a latched request can do. -/
theorem requestStep_cases (row : State → Job → Nat → RowResult) (d : Dir) (f : Fmt) (q : ReqFields) (s : State) :
    (s.busy = false ∧ requestStep row d f q s = .next s)
      ∨ (s.busy = true ∧ ∃ e, prepare s.cmt d f q s.cur = .error e
          ∧ requestStep row d f q s = .next (takeConfigError e s))
      ∨ (s.busy = true ∧ ∃ j, prepare s.cmt d f q s.cur = .ok j ∧
          ((s.row.toNat < j.h ∧ requestStep row d f q s = .next (rowStep row j s))
            ∨ (j.h ≤ s.row.toNat ∧ requestStep row d f q s = .next (settle j (complete s))))) := by
  unfold requestStep
  by_cases hb : s.busy = true
  · simp only [hb, Bool.not_true, Bool.false_eq_true, if_false]
    cases hp : prepare s.cmt d f q s.cur with
    | error e => exact .inr (.inl ⟨trivial, e, rfl, rfl⟩)
    | ok j =>
      refine .inr (.inr ⟨trivial, j, rfl, ?_⟩)
      by_cases hr : s.row.toNat < j.h
      · exact .inl ⟨hr, by simp [hr]⟩
      · exact .inr ⟨by omega, by simp [hr]⟩
  · simp only [Bool.not_eq_true] at hb
    simp [hb]

/-- What the step on a request without an entry can do. -/
theorem noEntryStep_cases (d : Dir) (f : Fmt) (q : ReqFields) (s : State) :
    (s.busy = false ∧ noEntryStep d f q s = .next s)
      ∨ (s.busy = true ∧ noEntryStep d f q s =
          .next (takeConfigError ((validate { s.cur with reqOp := reqWord d f q }).getD .combo) s)) := by
  unfold noEntryStep
  cases hb : s.busy <;> simp

/-- What an accepted START can do. -/
theorem acceptStart_cases (s : State) :
    (∃ e, prepareLatched s.cmt s.regs = .error e
        ∧ acceptStart s = .next (takeConfigError e { clearStatus s with cur := s.regs, tainted := false }))
      ∨ ∃ j, prepareLatched s.cmt s.regs = .ok j ∧
        ((s.platform.devices.any (footprintTouches j) = true ∧ acceptStart s = .refused .sideEffectMemory)
          ∨ (s.platform.devices.any (footprintTouches j) = false
            ∧ acceptStart s = .next { clearStatus s with cur := s.regs, tainted := false, busy := true })) := by
  unfold acceptStart
  cases hp : prepareLatched s.cmt s.regs with
  | error e => exact .inl ⟨e, rfl, rfl⟩
  | ok j =>
    refine .inr ⟨j, rfl, ?_⟩
    cases hd : s.platform.devices.any (footprintTouches j)
    · exact .inr ⟨rfl, by simp only [hd]; rfl⟩
    · exact .inl ⟨rfl, by simp only [hd]; rfl⟩

/-- What a prepared request is: its parts, and the checks it passed. -/
theorem prepare_eq_ok {t : Cmt} {d : Dir} {f : Fmt} {q : ReqFields} {c : ReqRegs} {j : Job}
    (h : prepare t d f q c = .ok j) :
    validate { c with reqOp := reqWord d f q } = none ∧ j.dir = d ∧ j.fmt = f ∧ j.q = q
      ∧ j.c = { c with reqOp := reqWord d f q } ∧ decodeDepth q.pdepth = some j.s
      ∧ decodeMode c.ditherCtl = some j.mode ∧ ∃ cs, decodeCs q.cs = some cs ∧ j.e = t.entry cs := by
  unfold prepare at h
  dsimp only at h
  generalize reqWord d f q = w at h ⊢
  cases hv : validate { c with reqOp := w } with
  | some e => rw [hv] at h; cases h
  | none =>
    rw [hv] at h
    cases hc : decodeCs q.cs with
    | none => rw [hc] at h; cases h
    | some cs =>
      cases hs : decodeDepth q.pdepth with
      | none => rw [hc, hs] at h; cases h
      | some s =>
        cases hm : decodeMode c.ditherCtl with
        | none => simp only [hc, hs, hm] at h; cases h
        | some m =>
          simp only [hc, hs, hm, Except.ok.injEq] at h
          subst h
          exact ⟨rfl, rfl, rfl, rfl, rfl, rfl, rfl, cs, rfl, rfl⟩

/-! ### The exit stage -/

/-- The exit stage of a run of samples after another: the draws thread through both (R114). -/
theorem exitStage_append (m : DitherMode) (l l' : List Item) (ds : Draws) :
    exitStage m (l ++ l') ds
      = ((exitStage m l ds).1 ++ (exitStage m l' (exitStage m l ds).2).1, (exitStage m l' (exitStage m l ds).2).2) := by
  induction l generalizing ds with
  | nil => rfl
  | cons it l ih => simp [exitStage, ih]

/-- What a sample's depth change can do: keep the value and draw nothing, or narrow it with one draw (R121, R111). -/
theorem exitSample_cases (m : DitherMode) (it : Item) (ds : Draws) :
    (it.s ≤ it.t ∧ exitSample m it ds = (it.v, ds))
      ∨ (it.t < it.s ∧ exitSample m it ds
          = (narrow it.v it.s it.t (draw m (it.s - it.t) ds).1, (draw m (it.s - it.t) ds).2)) := by
  unfold exitSample
  split
  · exact .inl ⟨by assumption, rfl⟩
  · exact .inr ⟨by omega, rfl⟩

/-- The arrays hold each channel's samples in order. -/
theorem channelOf_append (ch : Chan) (l l' : List (Chan × Nat)) :
    channelOf ch (l ++ l') = channelOf ch l ++ channelOf ch l' := by
  simp [channelOf, List.filterMap_append]

/-! ### The host -/

/-- A word with none of bits 2:0 set carries no command (R72). -/
theorem decode_command_eq_none {v : Word} (h : v &&& 7 = 0) : decode .command v = none := by
  have e : (v &&& 7).toNat = 0 := by rw [h]; rfl
  rw [BitVec.toNat_and] at e
  have hm : v.toNat % 8 = 0 := by simpa using (Nat.and_two_pow_sub_one_eq_mod v.toNat 3).symm.trans e
  have h0 : bitAt v 0 = false ∧ bitAt v 1 = false ∧ bitAt v 2 = false := by
    simp only [bitAt, slice]
    refine ⟨?_, ?_, ?_⟩ <;> simp <;> omega
  simp [decode, decodeCommand, h0]


/-- What a host access to memory can do. -/
theorem hostAccess_cases (s : State) (a : Word) (k : State) :
    hostAccess s a k = .refused .sideEffectMemory ∨ (accessOk s.platform a.toNat 1 = true ∧ hostAccess s a k = .next k)
      ∨ (accessOk s.platform a.toNat 1 = false ∧ hostAccess s a k = .fault .hostAccess) := by
  unfold hostAccess
  split
  · exact .inl rfl
  · split
    · exact .inr (.inl ⟨by assumption, rfl⟩)
    · rename_i h
      exact .inr (.inr ⟨by simpa using h, rfl⟩)

/-- A byte lies in the spans exactly where they cover its address. -/
theorem inSpans_iff (a : Int) (ss : List Span) : inSpans a ss = true ↔ Covers ss a := by
  simp only [inSpans, Covers, List.any_eq_true, Span.meets, Bool.and_eq_true, decide_eq_true_eq]
  refine exists_congr fun sp => and_congr_right fun _ => ?_
  omega

/-- A register access reaches a register only as an aligned whole word inside the block. -/
theorem regOf_eq_some {p : Platform} {a : Word} {width : AccessWidth} {r : Reg} (h : regOf p a width = some r) :
    width = .word ∧ p.regBase.toNat ≤ a.toNat ∧ a.toNat - p.regBase.toNat ≤ 0x7C
      ∧ (a.toNat - p.regBase.toNat) % 4 = 0 ∧ r = regAt (a.toNat - p.regBase.toNat) := by
  simp only [regOf] at h
  split at h
  · rename_i hc
    simp only [Bool.and_eq_true, decide_eq_true_eq] at hc
    cases h
    exact ⟨hc.1.1.1, hc.1.1.2, hc.1.2, hc.2, rfl⟩
  · cases h

/-- What a step is: the instruction its turn carries, or the turn's own effect. -/
theorem step_cases (s : State) :
    (∃ i t, fetch s = some (i, t) ∧ step s = exec i t) ∨ (fetch s = none ∧ step s = otherTurn s) := by
  unfold step
  cases h : fetch s with
  | none => exact .inr ⟨rfl, rfl⟩
  | some x => exact .inl ⟨x.1, x.2, rfl, rfl⟩

end Sys2Proof.Machine
end

