-- ==== Sys2Proof/Laws/PerInstr.lean ====
section
/-!
SUPPORT. The family of statements made for each instruction: the word the encoder writes has the bits that the
instruction's row of spec/opcode_table.json fixes (30_encoding.md R61, R62, R63, R72).
-/

namespace Sys2Proof.Laws

open Sys2Proof

/-- The bits that a row of the table fixes, as (low bit, length, value): the row's `match` under its `mask`. -/
def EncodeMatchesTable.rowBits : Instr → List (Nat × Nat × Nat)
  | .packYuyv _ => [(0, 8, 1), (21, 11, 0)]
  | .packUyvy _ => [(0, 8, 2), (21, 11, 0)]
  | .packV210 _ => [(0, 8, 3), (21, 11, 0)]
  | .packYu64 _ => [(0, 8, 4), (21, 11, 0)]
  | .packRgb24 _ => [(0, 8, 5), (21, 11, 0)]
  | .packRgb32 _ => [(0, 8, 6), (21, 11, 0)]
  | .packRgba32 _ => [(0, 8, 7), (21, 11, 0)]
  | .packRgb48 _ => [(0, 8, 8), (21, 11, 0)]
  | .packRgba64 _ => [(0, 8, 9), (21, 11, 0)]
  | .packBgra64 _ => [(0, 8, 10), (21, 11, 0)]
  | .packRg30 _ => [(0, 8, 11), (21, 11, 0)]
  | .packAr10 _ => [(0, 8, 12), (21, 11, 0)]
  | .packAb10 _ => [(0, 8, 13), (21, 11, 0)]
  | .packR210 _ => [(0, 8, 14), (21, 11, 0)]
  | .packDpx0 _ => [(0, 8, 15), (21, 11, 0)]
  | .packRgb8p _ => [(0, 8, 16), (21, 11, 0)]
  | .packRgba8p _ => [(0, 8, 17), (21, 11, 0)]
  | .packNv12 _ => [(0, 8, 18), (21, 11, 0)]
  | .packYv12 _ => [(0, 8, 19), (21, 11, 0)]
  | .packAvid28 _ => [(0, 8, 20), (21, 11, 0)]
  | .packAvid214 _ => [(0, 8, 21), (21, 11, 0)]
  | .packAvid106 _ => [(0, 8, 22), (21, 11, 0)]
  | .unpackYuyv _ => [(0, 8, 129), (21, 11, 0)]
  | .unpackUyvy _ => [(0, 8, 130), (21, 11, 0)]
  | .unpackV210 _ => [(0, 8, 131), (21, 11, 0)]
  | .unpackYu64 _ => [(0, 8, 132), (21, 11, 0)]
  | .unpackRgb24 _ => [(0, 8, 133), (21, 11, 0)]
  | .unpackRgb32 _ => [(0, 8, 134), (21, 11, 0)]
  | .unpackRgba32 _ => [(0, 8, 135), (21, 11, 0)]
  | .unpackRgb48 _ => [(0, 8, 136), (21, 11, 0)]
  | .unpackRgba64 _ => [(0, 8, 137), (21, 11, 0)]
  | .unpackBgra64 _ => [(0, 8, 138), (21, 11, 0)]
  | .unpackRg30 _ => [(0, 8, 139), (21, 11, 0)]
  | .unpackAr10 _ => [(0, 8, 140), (21, 11, 0)]
  | .unpackAb10 _ => [(0, 8, 141), (21, 11, 0)]
  | .unpackR210 _ => [(0, 8, 142), (21, 11, 0)]
  | .unpackDpx0 _ => [(0, 8, 143), (21, 11, 0)]
  | .unpackRgb8p _ => [(0, 8, 144), (21, 11, 0)]
  | .unpackRgba8p _ => [(0, 8, 145), (21, 11, 0)]
  | .unpackNv12 _ => [(0, 8, 146), (21, 11, 0)]
  | .unpackYv12 _ => [(0, 8, 147), (21, 11, 0)]
  | .unpackAvid28 _ => [(0, 8, 148), (21, 11, 0)]
  | .unpackAvid214 _ => [(0, 8, 149), (21, 11, 0)]
  | .unpackAvid106 _ => [(0, 8, 150), (21, 11, 0)]
  | .start _ _ _ => [(0, 1, 1)]
  | .clr _ _ => [(1, 1, 1)]
  | .srst _ => [(2, 1, 1)]

/-- The encoded word has the bits its row fixes. -/
def EncodeMatchesTable.Statement (i : Instr) : Prop :=
  ∀ b ∈ EncodeMatchesTable.rowBits i, slice (encode i).2 b.1 b.2.1 = b.2.2

/-! ### Words as numbers -/

theorem bitVal_lt (b : Bool) : bitVal b < 2 := by cases b <;> decide

theorem tag_pos_lt (f : Fmt) : 0 < f.tag ∧ f.tag < 23 := by cases f <;> decide

theorem dirBit_lt (d : Dir) : d.bit < 2 := by cases d <;> decide

theorem familyCode_lt (f : Family) : f.code < 4 := by cases f <;> decide

theorem ofTag_tag (f : Fmt) : Fmt.ofTag f.tag = some f := by cases f <;> rfl

theorem ofCode_code (f : Family) : Family.ofCode f.code = f := by cases f <;> rfl

/-- The request word as a number: no sum of its fields reaches bit 21. -/
theorem reqWord_toNat (d : Dir) (f : Fmt) (q : ReqFields) :
    (reqWord d f q).toNat = f.tag + 2 ^ 7 * d.bit + 2 ^ 8 * q.cs.toNat + 2 ^ 11 * bitVal q.ups + 2 ^ 12 * bitVal q.c709
      + 2 ^ 13 * bitVal q.vflip + 2 ^ 14 * q.pfam.code + 2 ^ 16 * q.pdepth.toNat + 2 ^ 19 * bitVal q.psigned
      + 2 ^ 20 * bitVal q.acomp := by
  have h1 := tag_pos_lt f
  have h2 := dirBit_lt d
  have h3 := q.cs.isLt
  have h4 := q.pdepth.isLt
  have h5 := familyCode_lt q.pfam
  have h6 := bitVal_lt q.ups
  have h7 := bitVal_lt q.c709
  have h8 := bitVal_lt q.vflip
  have h9 := bitVal_lt q.psigned
  have h10 := bitVal_lt q.acomp
  rw [reqWord, BitVec.toNat_ofNat, Nat.mod_eq_of_lt]
  omega

/-- The bits a request row fixes. -/
theorem slice_reqWord (d : Dir) (f : Fmt) (q : ReqFields) :
    slice (reqWord d f q) 0 8 = f.tag + 128 * d.bit ∧ slice (reqWord d f q) 21 11 = 0 := by
  have h1 := tag_pos_lt f
  have h2 := dirBit_lt d
  have h3 := q.cs.isLt
  have h4 := q.pdepth.isLt
  have h5 := familyCode_lt q.pfam
  have h6 := bitVal_lt q.ups
  have h7 := bitVal_lt q.c709
  have h8 := bitVal_lt q.vflip
  have h9 := bitVal_lt q.psigned
  have h10 := bitVal_lt q.acomp
  simp only [slice, reqWord_toNat]
  omega

theorem matches_reqWord (d : Dir) (f : Fmt) (q : ReqFields) :
    ∀ b ∈ [(0, 8, f.tag + 128 * d.bit), (21, 11, 0)], slice (reqWord d f q) b.1 b.2.1 = b.2.2 := by
  have h := slice_reqWord d f q
  simp [h.1, h.2]

/-! ### One lemma per instruction -/

theorem EncodeMatchesTable.packYuyv (q : ReqFields) : EncodeMatchesTable.Statement (.packYuyv q) :=
  matches_reqWord .pack .yuyv q

theorem EncodeMatchesTable.packUyvy (q : ReqFields) : EncodeMatchesTable.Statement (.packUyvy q) :=
  matches_reqWord .pack .uyvy q

theorem EncodeMatchesTable.packV210 (q : ReqFields) : EncodeMatchesTable.Statement (.packV210 q) :=
  matches_reqWord .pack .v210 q

theorem EncodeMatchesTable.packYu64 (q : ReqFields) : EncodeMatchesTable.Statement (.packYu64 q) :=
  matches_reqWord .pack .yu64 q

theorem EncodeMatchesTable.packRgb24 (q : ReqFields) : EncodeMatchesTable.Statement (.packRgb24 q) :=
  matches_reqWord .pack .rgb24 q

theorem EncodeMatchesTable.packRgb32 (q : ReqFields) : EncodeMatchesTable.Statement (.packRgb32 q) :=
  matches_reqWord .pack .rgb32 q

theorem EncodeMatchesTable.packRgba32 (q : ReqFields) : EncodeMatchesTable.Statement (.packRgba32 q) :=
  matches_reqWord .pack .rgba32 q

theorem EncodeMatchesTable.packRgb48 (q : ReqFields) : EncodeMatchesTable.Statement (.packRgb48 q) :=
  matches_reqWord .pack .rgb48 q

theorem EncodeMatchesTable.packRgba64 (q : ReqFields) : EncodeMatchesTable.Statement (.packRgba64 q) :=
  matches_reqWord .pack .rgba64 q

theorem EncodeMatchesTable.packBgra64 (q : ReqFields) : EncodeMatchesTable.Statement (.packBgra64 q) :=
  matches_reqWord .pack .bgra64 q

theorem EncodeMatchesTable.packRg30 (q : ReqFields) : EncodeMatchesTable.Statement (.packRg30 q) :=
  matches_reqWord .pack .rg30 q

theorem EncodeMatchesTable.packAr10 (q : ReqFields) : EncodeMatchesTable.Statement (.packAr10 q) :=
  matches_reqWord .pack .ar10 q

theorem EncodeMatchesTable.packAb10 (q : ReqFields) : EncodeMatchesTable.Statement (.packAb10 q) :=
  matches_reqWord .pack .ab10 q

theorem EncodeMatchesTable.packR210 (q : ReqFields) : EncodeMatchesTable.Statement (.packR210 q) :=
  matches_reqWord .pack .r210 q

theorem EncodeMatchesTable.packDpx0 (q : ReqFields) : EncodeMatchesTable.Statement (.packDpx0 q) :=
  matches_reqWord .pack .dpx0 q

theorem EncodeMatchesTable.packRgb8p (q : ReqFields) : EncodeMatchesTable.Statement (.packRgb8p q) :=
  matches_reqWord .pack .rgb8p q

theorem EncodeMatchesTable.packRgba8p (q : ReqFields) : EncodeMatchesTable.Statement (.packRgba8p q) :=
  matches_reqWord .pack .rgba8p q

theorem EncodeMatchesTable.packNv12 (q : ReqFields) : EncodeMatchesTable.Statement (.packNv12 q) :=
  matches_reqWord .pack .nv12 q

theorem EncodeMatchesTable.packYv12 (q : ReqFields) : EncodeMatchesTable.Statement (.packYv12 q) :=
  matches_reqWord .pack .yv12 q

theorem EncodeMatchesTable.packAvid28 (q : ReqFields) : EncodeMatchesTable.Statement (.packAvid28 q) :=
  matches_reqWord .pack .avid28 q

theorem EncodeMatchesTable.packAvid214 (q : ReqFields) : EncodeMatchesTable.Statement (.packAvid214 q) :=
  matches_reqWord .pack .avid214 q

theorem EncodeMatchesTable.packAvid106 (q : ReqFields) : EncodeMatchesTable.Statement (.packAvid106 q) :=
  matches_reqWord .pack .avid106 q

theorem EncodeMatchesTable.unpackYuyv (q : ReqFields) : EncodeMatchesTable.Statement (.unpackYuyv q) :=
  matches_reqWord .unpack .yuyv q

theorem EncodeMatchesTable.unpackUyvy (q : ReqFields) : EncodeMatchesTable.Statement (.unpackUyvy q) :=
  matches_reqWord .unpack .uyvy q

theorem EncodeMatchesTable.unpackV210 (q : ReqFields) : EncodeMatchesTable.Statement (.unpackV210 q) :=
  matches_reqWord .unpack .v210 q

theorem EncodeMatchesTable.unpackYu64 (q : ReqFields) : EncodeMatchesTable.Statement (.unpackYu64 q) :=
  matches_reqWord .unpack .yu64 q

theorem EncodeMatchesTable.unpackRgb24 (q : ReqFields) : EncodeMatchesTable.Statement (.unpackRgb24 q) :=
  matches_reqWord .unpack .rgb24 q

theorem EncodeMatchesTable.unpackRgb32 (q : ReqFields) : EncodeMatchesTable.Statement (.unpackRgb32 q) :=
  matches_reqWord .unpack .rgb32 q

theorem EncodeMatchesTable.unpackRgba32 (q : ReqFields) : EncodeMatchesTable.Statement (.unpackRgba32 q) :=
  matches_reqWord .unpack .rgba32 q

theorem EncodeMatchesTable.unpackRgb48 (q : ReqFields) : EncodeMatchesTable.Statement (.unpackRgb48 q) :=
  matches_reqWord .unpack .rgb48 q

theorem EncodeMatchesTable.unpackRgba64 (q : ReqFields) : EncodeMatchesTable.Statement (.unpackRgba64 q) :=
  matches_reqWord .unpack .rgba64 q

theorem EncodeMatchesTable.unpackBgra64 (q : ReqFields) : EncodeMatchesTable.Statement (.unpackBgra64 q) :=
  matches_reqWord .unpack .bgra64 q

theorem EncodeMatchesTable.unpackRg30 (q : ReqFields) : EncodeMatchesTable.Statement (.unpackRg30 q) :=
  matches_reqWord .unpack .rg30 q

theorem EncodeMatchesTable.unpackAr10 (q : ReqFields) : EncodeMatchesTable.Statement (.unpackAr10 q) :=
  matches_reqWord .unpack .ar10 q

theorem EncodeMatchesTable.unpackAb10 (q : ReqFields) : EncodeMatchesTable.Statement (.unpackAb10 q) :=
  matches_reqWord .unpack .ab10 q

theorem EncodeMatchesTable.unpackR210 (q : ReqFields) : EncodeMatchesTable.Statement (.unpackR210 q) :=
  matches_reqWord .unpack .r210 q

theorem EncodeMatchesTable.unpackDpx0 (q : ReqFields) : EncodeMatchesTable.Statement (.unpackDpx0 q) :=
  matches_reqWord .unpack .dpx0 q

theorem EncodeMatchesTable.unpackRgb8p (q : ReqFields) : EncodeMatchesTable.Statement (.unpackRgb8p q) :=
  matches_reqWord .unpack .rgb8p q

theorem EncodeMatchesTable.unpackRgba8p (q : ReqFields) : EncodeMatchesTable.Statement (.unpackRgba8p q) :=
  matches_reqWord .unpack .rgba8p q

theorem EncodeMatchesTable.unpackNv12 (q : ReqFields) : EncodeMatchesTable.Statement (.unpackNv12 q) :=
  matches_reqWord .unpack .nv12 q

theorem EncodeMatchesTable.unpackYv12 (q : ReqFields) : EncodeMatchesTable.Statement (.unpackYv12 q) :=
  matches_reqWord .unpack .yv12 q

theorem EncodeMatchesTable.unpackAvid28 (q : ReqFields) : EncodeMatchesTable.Statement (.unpackAvid28 q) :=
  matches_reqWord .unpack .avid28 q

theorem EncodeMatchesTable.unpackAvid214 (q : ReqFields) : EncodeMatchesTable.Statement (.unpackAvid214 q) :=
  matches_reqWord .unpack .avid214 q

theorem EncodeMatchesTable.unpackAvid106 (q : ReqFields) : EncodeMatchesTable.Statement (.unpackAvid106 q) :=
  matches_reqWord .unpack .avid106 q

theorem EncodeMatchesTable.start (withSrst withClr ie : Bool) :
    EncodeMatchesTable.Statement (.start withSrst withClr ie) := by
  cases withSrst <;> cases withClr <;> cases ie <;> (unfold EncodeMatchesTable.Statement; decide)

theorem EncodeMatchesTable.clr (withSrst ie : Bool) : EncodeMatchesTable.Statement (.clr withSrst ie) := by
  cases withSrst <;> cases ie <;> (unfold EncodeMatchesTable.Statement; decide)

theorem EncodeMatchesTable.srst (ie : Bool) : EncodeMatchesTable.Statement (.srst ie) := by
  cases ie <;> (unfold EncodeMatchesTable.Statement; decide)

end Sys2Proof.Laws
end

