-- ==== Sys2Proof/Tests/Slice0.lean ====
section
/-!
SUPPORT. The model's own tests: the well-formedness checks, the decoding of a word of every row, one or two steps of every
instruction on a small state, with expected results from spec/95_test_vectors.md and the examples of the rules, and for
every statement with hypotheses a concrete state and operands that meet them.
-/

namespace Sys2Proof.Tests

open Sys2Proof Sys2Proof.Machine

set_option Elab.async false

/-! ## Well-formedness -/

theorem test_wf_cs_none : (Instr.packYuyv ⟨0, false, false, false, .yuv422, 0, false, false⟩).wellFormed = false := rfl
theorem test_wf_cs_both : (Instr.unpackDpx0 ⟨3, false, false, false, .rgb, 1, false, false⟩).wellFormed = false := rfl
theorem test_wf_depth : (Instr.packV210 ⟨1, false, false, false, .yuv422, 5, false, false⟩).wellFormed = false := rfl
theorem test_wf_sign : (Instr.packRgb48 ⟨2, false, false, false, .rgb, 4, true, false⟩).wellFormed = false := rfl
theorem test_wf_signed_13 : (Instr.unpackYu64 ⟨6, false, false, false, .yuv444, 3, true, false⟩).wellFormed = true := rfl

/-! ## Decoding: words written out from the encoding of R61 and R72 -/

theorem test_decode_packYuyv : decode .request 0x00000101 = some (.packYuyv ⟨1, false, false, false, .yuv422, 0, false, false⟩) := by decide +kernel
theorem test_decode_packUyvy : decode .request 0x00001A02 = some (.packUyvy ⟨2, true, true, false, .yuv422, 0, false, false⟩) := by decide +kernel
theorem test_decode_packV210 : decode .request 0x00010103 = some (.packV210 ⟨1, false, false, false, .yuv422, 1, false, false⟩) := by decide +kernel
theorem test_decode_packYu64 : decode .request 0x00040504 = some (.packYu64 ⟨5, false, false, false, .yuv422, 4, false, false⟩) := by decide +kernel
theorem test_decode_packRgb24 : decode .request 0x00008105 = some (.packRgb24 ⟨1, false, false, false, .rgb, 0, false, false⟩) := by decide +kernel
theorem test_decode_packRgb32 : decode .request 0x0000C106 = some (.packRgb32 ⟨1, false, false, false, .rgba, 0, false, false⟩) := by decide +kernel
theorem test_decode_packRgba32 : decode .request 0x0010C107 = some (.packRgba32 ⟨1, false, false, false, .rgba, 0, false, true⟩) := by decide +kernel
theorem test_decode_packRgb48 : decode .request 0x00048108 = some (.packRgb48 ⟨1, false, false, false, .rgb, 4, false, false⟩) := by decide +kernel
theorem test_decode_packRgba64 : decode .request 0x0014C109 = some (.packRgba64 ⟨1, false, false, false, .rgba, 4, false, true⟩) := by decide +kernel
theorem test_decode_packBgra64 : decode .request 0x0004C10A = some (.packBgra64 ⟨1, false, false, false, .rgba, 4, false, false⟩) := by decide +kernel
theorem test_decode_packRg30 : decode .request 0x0001810B = some (.packRg30 ⟨1, false, false, false, .rgb, 1, false, false⟩) := by decide +kernel
theorem test_decode_packAr10 : decode .request 0x0001860C = some (.packAr10 ⟨6, false, false, false, .rgb, 1, false, false⟩) := by decide +kernel
theorem test_decode_packAb10 : decode .request 0x0001810D = some (.packAb10 ⟨1, false, false, false, .rgb, 1, false, false⟩) := by decide +kernel
theorem test_decode_packR210 : decode .request 0x0001810E = some (.packR210 ⟨1, false, false, false, .rgb, 1, false, false⟩) := by decide +kernel
theorem test_decode_packDpx0 : decode .request 0x0001810F = some (.packDpx0 ⟨1, false, false, false, .rgb, 1, false, false⟩) := by decide +kernel
theorem test_decode_packRgb8p : decode .request 0x00048110 = some (.packRgb8p ⟨1, false, false, false, .rgb, 4, false, false⟩) := by decide +kernel
theorem test_decode_packRgba8p : decode .request 0x0004C111 = some (.packRgba8p ⟨1, false, false, false, .rgba, 4, false, false⟩) := by decide +kernel
theorem test_decode_packNv12 : decode .request 0x00002112 = some (.packNv12 ⟨1, false, false, true, .yuv422, 0, false, false⟩) := by decide +kernel
theorem test_decode_packYv12 : decode .request 0x00002113 = some (.packYv12 ⟨1, false, false, true, .yuv422, 0, false, false⟩) := by decide +kernel
theorem test_decode_packAvid28 : decode .request 0x00010114 = some (.packAvid28 ⟨1, false, false, false, .yuv422, 1, false, false⟩) := by decide +kernel
theorem test_decode_packAvid214 : decode .request 0x000B4115 = some (.packAvid214 ⟨1, false, false, false, .yuv444, 3, true, false⟩) := by decide +kernel
theorem test_decode_packAvid106 : decode .request 0x00040116 = some (.packAvid106 ⟨1, false, false, false, .yuv422, 4, false, false⟩) := by decide +kernel
theorem test_decode_unpackYuyv : decode .request 0x00004981 = some (.unpackYuyv ⟨1, true, false, false, .yuv444, 0, false, false⟩) := by decide +kernel
theorem test_decode_unpackUyvy : decode .request 0x00001A82 = some (.unpackUyvy ⟨2, true, true, false, .yuv422, 0, false, false⟩) := by decide +kernel
theorem test_decode_unpackV210 : decode .request 0x00010183 = some (.unpackV210 ⟨1, false, false, false, .yuv422, 1, false, false⟩) := by decide +kernel
theorem test_decode_unpackYu64 : decode .request 0x00040584 = some (.unpackYu64 ⟨5, false, false, false, .yuv422, 4, false, false⟩) := by decide +kernel
theorem test_decode_unpackRgb24 : decode .request 0x00008185 = some (.unpackRgb24 ⟨1, false, false, false, .rgb, 0, false, false⟩) := by decide +kernel
theorem test_decode_unpackRgb32 : decode .request 0x0010C186 = some (.unpackRgb32 ⟨1, false, false, false, .rgba, 0, false, true⟩) := by decide +kernel
theorem test_decode_unpackRgba32 : decode .request 0x0010C187 = some (.unpackRgba32 ⟨1, false, false, false, .rgba, 0, false, true⟩) := by decide +kernel
theorem test_decode_unpackRgb48 : decode .request 0x00048188 = some (.unpackRgb48 ⟨1, false, false, false, .rgb, 4, false, false⟩) := by decide +kernel
theorem test_decode_unpackRgba64 : decode .request 0x0014C189 = some (.unpackRgba64 ⟨1, false, false, false, .rgba, 4, false, true⟩) := by decide +kernel
theorem test_decode_unpackBgra64 : decode .request 0x0004C18A = some (.unpackBgra64 ⟨1, false, false, false, .rgba, 4, false, false⟩) := by decide +kernel
theorem test_decode_unpackRg30 : decode .request 0x0001818B = some (.unpackRg30 ⟨1, false, false, false, .rgb, 1, false, false⟩) := by decide +kernel
theorem test_decode_unpackAr10 : decode .request 0x0001868C = some (.unpackAr10 ⟨6, false, false, false, .rgb, 1, false, false⟩) := by decide +kernel
theorem test_decode_unpackAb10 : decode .request 0x0001818D = some (.unpackAb10 ⟨1, false, false, false, .rgb, 1, false, false⟩) := by decide +kernel
theorem test_decode_unpackR210 : decode .request 0x0001818E = some (.unpackR210 ⟨1, false, false, false, .rgb, 1, false, false⟩) := by decide +kernel
theorem test_decode_unpackDpx0 : decode .request 0x0004818F = some (.unpackDpx0 ⟨1, false, false, false, .rgb, 4, false, false⟩) := by decide +kernel
theorem test_decode_unpackRgb8p : decode .request 0x00048190 = some (.unpackRgb8p ⟨1, false, false, false, .rgb, 4, false, false⟩) := by decide +kernel
theorem test_decode_unpackRgba8p : decode .request 0x0015D591 = some (.unpackRgba8p ⟨5, false, true, false, .rgba, 5, false, true⟩) := by decide +kernel
theorem test_decode_unpackNv12 : decode .request 0x00002192 = some (.unpackNv12 ⟨1, false, false, true, .yuv422, 0, false, false⟩) := by decide +kernel
theorem test_decode_unpackYv12 : decode .request 0x00002193 = some (.unpackYv12 ⟨1, false, false, true, .yuv422, 0, false, false⟩) := by decide +kernel
theorem test_decode_unpackAvid28 : decode .request 0x000A0194 = some (.unpackAvid28 ⟨1, false, false, false, .yuv422, 2, true, false⟩) := by decide +kernel
theorem test_decode_unpackAvid214 : decode .request 0x000B4195 = some (.unpackAvid214 ⟨1, false, false, false, .yuv444, 3, true, false⟩) := by decide +kernel
theorem test_decode_unpackAvid106 : decode .request 0x00040196 = some (.unpackAvid106 ⟨1, false, false, false, .yuv422, 4, false, false⟩) := by decide +kernel
theorem test_decode_start : decode .command 0x00000001 = some (.start false false false) := by decide +kernel
theorem test_decode_start_all : decode .command 0xFFFFFFFF = some (.start true true true) := by decide +kernel
theorem test_decode_clr : decode .command 0x00000102 = some (.clr false true) := by decide +kernel
theorem test_decode_srst : decode .command 0x00000104 = some (.srst true) := by decide +kernel
theorem test_decode_no_command : decode .command 0x00000100 = none := by decide +kernel
theorem test_decode_reserved_bit6 : decode .request 0x00000141 = none := by decide +kernel
theorem test_decode_reserved_bit21 : decode .request 0x00200101 = none := by decide +kernel
theorem test_decode_fmt23 : decode .request 0x00000117 = none := by decide +kernel
theorem test_decodeTableWord_request : decodeTableWord 32 0x93 = some (.unpackYv12 ⟨0, false, false, false, .yuv422, 0, false, false⟩) := by
  decide +kernel
theorem test_decodeTableWord_command : decodeTableWord 8 4 = some (.srst false) := by decide +kernel

/-! ## Small states -/

/-- Put a list of bytes at an address. -/
def put (m : Memory) (a : Nat) (bs : List Nat) : Memory :=
  storeBytes m (bs.zipIdx.map fun b => (((a + b.2 : Nat) : Int), BitVec.ofNat 8 b.1))

/-- The bytes from an address. -/
def bytes (m : Memory) (a n : Nat) : List Nat := tabulate n fun i => (loadByte m (a + i)).toNat

/-- 16-bit samples as bytes. -/
def le16 (l : List Nat) : List Nat := l.flatMap fun v => [v % 256, v / 256]

/-- Registers of a request word on a region of `w` by `h`: slots at 0x1000, 0x2000, 0x3000, 0x4000, external buffers at
0x8000, 0x9000, 0xA000, every pitch 0x100, dither mode `OFF` (2). -/
def regsOf (op : Word) (w h fw : Nat) (tags : Nat × Nat × Nat × Nat) (mode : Word) : ReqRegs where
  reqOp := op
  roi := BitVec.ofNat 32 (w + 65536 * h)
  frame := BitVec.ofNat 32 fw
  ditherCtl := mode
  planeBase := #v[0x1000, 0x2000, 0x3000, 0x4000]
  planePitch := #v[0x100, 0x100, 0x100, 0x100]
  planeTag := #v[BitVec.ofNat 32 tags.1, BitVec.ofNat 32 tags.2.1, BitVec.ofNat 32 tags.2.2.1, BitVec.ofNat 32 tags.2.2.2]
  extBase := #v[0x8000, 0x9000, 0xA000]
  extPitch := #v[0x100, 0x100, 0x100]

/-- The engine at row `r` of a request. -/
def running (c : ReqRegs) (m : Memory) (r : Nat) : State :=
  { State.reset with regs := c, cur := c, busy := true, row := BitVec.ofNat 16 r, mem := m }

def yuv : Nat × Nat × Nat × Nat := (1, 2, 3, 0)
def rgb : Nat × Nat × Nat × Nat := (4, 5, 6, 0)
def rgba : Nat × Nat × Nat × Nat := (4, 5, 6, 7)

/-- Memory with rows in the four slots, at row `r`. -/
def planes (r : Nat) (a b c d : List Nat) : Memory :=
  put (put (put (put [] (0x1000 + 0x100 * r) a) (0x2000 + 0x100 * r) b) (0x3000 + 0x100 * r) c) (0x4000 + 0x100 * r) d

/-- Memory with rows in the first two external buffers. -/
def externals (a b : List Nat) : Memory := put (put [] 0x8000 a) 0x9000 b

/-- A fact about the next state; false where there is none. -/
def next? (x : Host.Outcome State Fault Refusal) (p : State → Bool) : Bool :=
  match x with
  | .next t => p t
  | .fault _ => false
  | .refused _ => false

/-- `RowRuns` as a computation, with disjoint footprints. -/
def runsCheck (d : Dir) (f : Fmt) (q : ReqFields) (s : State) : Bool :=
  let ok (ss : List Span) : Bool := ss.all fun sp => (List.range sp.len).all fun i => accessOk s.platform (sp.start + i) 1
  match prepare s.cmt d f q s.cur with
  | .error _ => false
  | .ok j => s.mem.wf && s.busy && s.row.toNat < j.h && ok (rowReads j s.row.toNat) && ok (rowWrites j s.row.toNat)
      && !overlaps j

theorem runs_of_check {d : Dir} {f : Fmt} {q : ReqFields} {s : State} (h : runsCheck d f q s = true) :
    ∃ j, RowRuns d f q s j ∧ overlaps j = false := by
  unfold runsCheck at h
  cases hp : prepare s.cmt d f q s.cur with
  | error e => rw [hp] at h; cases h
  | ok j =>
    rw [hp] at h
    simp only [Bool.and_eq_true, decide_eq_true_eq, List.all_eq_true, List.mem_range, Bool.not_eq_true'] at h
    exact ⟨j, ⟨h.1.1.1.1.1, h.1.1.1.1.2, hp, h.1.1.1.2, fun sp hs i hi => h.1.1.2 sp hs i hi,
      fun sp hs i hi => h.1.2 sp hs i hi⟩, h.2⟩

/-! ## One row of every request, and the witness of its row statement -/

def packYuyvState : State :=
  running (regsOf 0x101 4 2 4 yuv 2) (planes 0 [0x10, 0x20, 0x30, 0x40] [0x51, 0x52] [0x61, 0x62] []) 0
theorem test_packYuyv_row : next? (exec (.packYuyv (reqFields 0x101)) packYuyvState) (fun t =>
    bytes t.mem 0x8000 8 = [0x10, 0x51, 0x20, 0x61, 0x30, 0x52, 0x40, 0x62] && t.row = 1) = true := by decide +kernel
theorem witness_packYuyv_row : ∃ j, RowRuns .pack .yuyv (reqFields 0x101) packYuyvState j ∧ overlaps j = false :=
  runs_of_check (by decide +kernel)

def packUyvyState : State :=
  running (regsOf 0x102 4 2 6 yuv 2) (planes 0 [0x10, 0x20, 0x30, 0x40] [0x51, 0x52] [0x61, 0x62] []) 0
theorem test_packUyvy_row : next? (exec (.packUyvy (reqFields 0x102)) packUyvyState) (fun t =>
    bytes t.mem 0x8000 12 = [0x51, 0x10, 0x61, 0x20, 0x52, 0x30, 0x62, 0x40, 0x80, 0x10, 0x80, 0x10] && t.row = 1) = true := by decide +kernel
theorem witness_packUyvy_row : ∃ j, RowRuns .pack .uyvy (reqFields 0x102) packUyvyState j ∧ overlaps j = false :=
  runs_of_check (by decide +kernel)

def packV210State : State :=
  running (regsOf 0x10103 6 2 6 yuv 2) (planes 0 [0x01, 0x01, 0x02, 0x01, 0x03, 0x01, 0x04, 0x01, 0x05, 0x01, 0x06, 0x01] [0x01, 0x02, 0x02, 0x02, 0x03, 0x02] [0x01, 0x03, 0x02, 0x03, 0x03, 0x03] []) 0
theorem test_packV210_row : next? (exec (.packV210 (reqFields 0x10103)) packV210State) (fun t =>
    bytes t.mem 0x8000 16 = [0x01, 0x06, 0x14, 0x30, 0x02, 0x09, 0x38, 0x10, 0x02, 0x13, 0x34, 0x20, 0x05, 0x0D, 0x6C, 0x10] && t.row = 1) = true := by decide +kernel
theorem witness_packV210_row : ∃ j, RowRuns .pack .v210 (reqFields 0x10103) packV210State j ∧ overlaps j = false :=
  runs_of_check (by decide +kernel)

def packYu64State : State :=
  running (regsOf 0x40104 2 2 2 yuv 2) (planes 0 [0x11, 0x11, 0x22, 0x22] [0x33, 0x33] [0x44, 0x44] []) 0
theorem test_packYu64_row : next? (exec (.packYu64 (reqFields 0x40104)) packYu64State) (fun t =>
    bytes t.mem 0x8000 8 = [0x11, 0x11, 0x33, 0x33, 0x22, 0x22, 0x44, 0x44] && t.row = 1) = true := by decide +kernel
theorem witness_packYu64_row : ∃ j, RowRuns .pack .yu64 (reqFields 0x40104) packYu64State j ∧ overlaps j = false :=
  runs_of_check (by decide +kernel)

def packRgb24State : State :=
  running (regsOf 0x8105 2 2 3 rgb 2) (planes 0 [0x11, 0xFF] [0x22, 0x00] [0x33, 0x80] [0x44, 0xC0]) 0
theorem test_packRgb24_row : next? (exec (.packRgb24 (reqFields 0x8105)) packRgb24State) (fun t =>
    bytes t.mem 0x8000 9 = [0x33, 0x22, 0x11, 0x80, 0x00, 0xFF, 0x00, 0x00, 0x00] && t.row = 1) = true := by decide +kernel
theorem witness_packRgb24_row : ∃ j, RowRuns .pack .rgb24 (reqFields 0x8105) packRgb24State j ∧ overlaps j = false :=
  runs_of_check (by decide +kernel)

def packRgb32State : State :=
  running (regsOf 0x8106 2 2 3 rgb 2) (planes 0 [0x11, 0xFF] [0x22, 0x00] [0x33, 0x80] [0x44, 0xC0]) 0
theorem test_packRgb32_row : next? (exec (.packRgb32 (reqFields 0x8106)) packRgb32State) (fun t =>
    bytes t.mem 0x8000 12 = [0x33, 0x22, 0x11, 0xFF, 0x80, 0x00, 0xFF, 0xFF, 0x00, 0x00, 0x00, 0x00] && t.row = 1) = true := by decide +kernel
theorem witness_packRgb32_row : ∃ j, RowRuns .pack .rgb32 (reqFields 0x8106) packRgb32State j ∧ overlaps j = false :=
  runs_of_check (by decide +kernel)

def packRgba32State : State :=
  running (regsOf 0xC107 2 2 3 rgba 2) (planes 0 [0x11, 0xFF] [0x22, 0x00] [0x33, 0x80] [0x44, 0xC0]) 0
theorem test_packRgba32_row : next? (exec (.packRgba32 (reqFields 0xC107)) packRgba32State) (fun t =>
    bytes t.mem 0x8000 12 = [0x33, 0x22, 0x11, 0x44, 0x80, 0x00, 0xFF, 0xC0, 0x00, 0x00, 0x00, 0x00] && t.row = 1) = true := by decide +kernel
theorem witness_packRgba32_row : ∃ j, RowRuns .pack .rgba32 (reqFields 0xC107) packRgba32State j ∧ overlaps j = false :=
  runs_of_check (by decide +kernel)

def packRgb48State : State :=
  running (regsOf 0x48108 2 2 2 rgb 2) (planes 0 [0x22, 0x11, 0xFF, 0xFF] [0x44, 0x33, 0x00, 0x00] [0x66, 0x55, 0x00, 0x80] [0x88, 0x77, 0x00, 0xC0]) 0
theorem test_packRgb48_row : next? (exec (.packRgb48 (reqFields 0x48108)) packRgb48State) (fun t =>
    bytes t.mem 0x8000 12 = [0x22, 0x11, 0x44, 0x33, 0x66, 0x55, 0xFF, 0xFF, 0x00, 0x00, 0x00, 0x80] && t.row = 1) = true := by decide +kernel
theorem witness_packRgb48_row : ∃ j, RowRuns .pack .rgb48 (reqFields 0x48108) packRgb48State j ∧ overlaps j = false :=
  runs_of_check (by decide +kernel)

def packRgba64State : State :=
  running (regsOf 0x14C109 2 2 2 rgba 2) (planes 0 [0x22, 0x11, 0xFF, 0xFF] [0x44, 0x33, 0x00, 0x00] [0x66, 0x55, 0x00, 0x80] [0x00, 0x80, 0x00, 0x10]) 0
theorem test_packRgba64_row : next? (exec (.packRgba64 (reqFields 0x14C109)) packRgba64State) (fun t =>
    bytes t.mem 0x8000 16 = [0x22, 0x11, 0x44, 0x33, 0x66, 0x55, 0x84, 0x80, 0xFF, 0xFF, 0x00, 0x00, 0x00, 0x80, 0x00, 0x00] && t.row = 1) = true := by decide +kernel
theorem witness_packRgba64_row : ∃ j, RowRuns .pack .rgba64 (reqFields 0x14C109) packRgba64State j ∧ overlaps j = false :=
  runs_of_check (by decide +kernel)

def packBgra64State : State :=
  running (regsOf 0x4C10A 2 2 2 rgba 2) (planes 0 [0x22, 0x11, 0xFF, 0xFF] [0x44, 0x33, 0x00, 0x00] [0x66, 0x55, 0x00, 0x80] [0x88, 0x77, 0x00, 0xC0]) 0
theorem test_packBgra64_row : next? (exec (.packBgra64 (reqFields 0x4C10A)) packBgra64State) (fun t =>
    bytes t.mem 0x8000 16 = [0x66, 0x55, 0x44, 0x33, 0x22, 0x11, 0x88, 0x77, 0x00, 0x80, 0x00, 0x00, 0xFF, 0xFF, 0x00, 0xC0] && t.row = 1) = true := by decide +kernel
theorem witness_packBgra64_row : ∃ j, RowRuns .pack .bgra64 (reqFields 0x4C10A) packBgra64State j ∧ overlaps j = false :=
  runs_of_check (by decide +kernel)

def packRg30State : State :=
  running (regsOf 0x1810B 2 2 2 rgb 2) (planes 0 [0xFF, 0x03, 0x01, 0x00] [0x55, 0x01, 0x02, 0x00] [0xAA, 0x02, 0x03, 0x00] []) 0
theorem test_packRg30_row : next? (exec (.packRg30 (reqFields 0x1810B)) packRg30State) (fun t =>
    bytes t.mem 0x8000 8 = [0xFF, 0x57, 0xA5, 0x2A, 0x01, 0x08, 0x30, 0x00] && t.row = 1) = true := by decide +kernel
theorem witness_packRg30_row : ∃ j, RowRuns .pack .rg30 (reqFields 0x1810B) packRg30State j ∧ overlaps j = false :=
  runs_of_check (by decide +kernel)

def packAr10State : State :=
  running (regsOf 0x1810C 2 2 2 rgb 2) (planes 0 [0xFF, 0x03, 0x01, 0x00] [0x55, 0x01, 0x02, 0x00] [0xAA, 0x02, 0x03, 0x00] []) 0
theorem test_packAr10_row : next? (exec (.packAr10 (reqFields 0x1810C)) packAr10State) (fun t =>
    bytes t.mem 0x8000 8 = [0xAA, 0x56, 0xF5, 0x3F, 0x03, 0x08, 0x10, 0x00] && t.row = 1) = true := by decide +kernel
theorem witness_packAr10_row : ∃ j, RowRuns .pack .ar10 (reqFields 0x1810C) packAr10State j ∧ overlaps j = false :=
  runs_of_check (by decide +kernel)

def packAb10State : State :=
  running (regsOf 0x1810D 2 2 2 rgb 2) (planes 0 [0xFF, 0x03, 0x01, 0x00] [0x55, 0x01, 0x02, 0x00] [0xAA, 0x02, 0x03, 0x00] []) 0
theorem test_packAb10_row : next? (exec (.packAb10 (reqFields 0x1810D)) packAb10State) (fun t =>
    bytes t.mem 0x8000 8 = [0xFF, 0x57, 0xA5, 0x2A, 0x01, 0x08, 0x30, 0x00] && t.row = 1) = true := by decide +kernel
theorem witness_packAb10_row : ∃ j, RowRuns .pack .ab10 (reqFields 0x1810D) packAb10State j ∧ overlaps j = false :=
  runs_of_check (by decide +kernel)

def packR210State : State :=
  running (regsOf 0x1810E 2 2 2 rgb 2) (planes 0 [0xFF, 0x03, 0x01, 0x00] [0x55, 0x01, 0x02, 0x00] [0xAA, 0x02, 0x03, 0x00] []) 0
theorem test_packR210_row : next? (exec (.packR210 (reqFields 0x1810E)) packR210State) (fun t =>
    bytes t.mem 0x8000 8 = [0x3F, 0xF5, 0x56, 0xAA, 0x00, 0x10, 0x08, 0x03] && t.row = 1) = true := by decide +kernel
theorem witness_packR210_row : ∃ j, RowRuns .pack .r210 (reqFields 0x1810E) packR210State j ∧ overlaps j = false :=
  runs_of_check (by decide +kernel)

def packDpx0State : State :=
  running (regsOf 0x1810F 2 2 2 rgb 2) (planes 0 [0xFF, 0x03, 0x01, 0x00] [0x55, 0x01, 0x02, 0x00] [0xAA, 0x02, 0x03, 0x00] []) 0
theorem test_packDpx0_row : next? (exec (.packDpx0 (reqFields 0x1810F)) packDpx0State) (fun t =>
    bytes t.mem 0x8000 8 = [0xFF, 0xD5, 0x5A, 0xA8, 0x00, 0x40, 0x20, 0x0C] && t.row = 1) = true := by decide +kernel
theorem witness_packDpx0_row : ∃ j, RowRuns .pack .dpx0 (reqFields 0x1810F) packDpx0State j ∧ overlaps j = false :=
  runs_of_check (by decide +kernel)

def packRgb8pState : State :=
  running (regsOf 0x48110 8 2 8 rgb 2) (planes 0 [0x00, 0x10, 0x01, 0x10, 0x02, 0x10, 0x03, 0x10, 0x04, 0x10, 0x05, 0x10, 0x06, 0x10, 0x07, 0x10] [0x00, 0x20, 0x01, 0x20, 0x02, 0x20, 0x03, 0x20, 0x04, 0x20, 0x05, 0x20, 0x06, 0x20, 0x07, 0x20] [0x00, 0x30, 0x01, 0x30, 0x02, 0x30, 0x03, 0x30, 0x04, 0x30, 0x05, 0x30, 0x06, 0x30, 0x07, 0x30] []) 0
theorem test_packRgb8p_row : next? (exec (.packRgb8p (reqFields 0x48110)) packRgb8pState) (fun t =>
    bytes t.mem 0x8000 48 = [0x00, 0x10, 0x01, 0x10, 0x02, 0x10, 0x03, 0x10, 0x04, 0x10, 0x05, 0x10, 0x06, 0x10, 0x07, 0x10, 0x00, 0x20, 0x01, 0x20, 0x02, 0x20, 0x03, 0x20, 0x04, 0x20, 0x05, 0x20, 0x06, 0x20, 0x07, 0x20, 0x00, 0x30, 0x01, 0x30, 0x02, 0x30, 0x03, 0x30, 0x04, 0x30, 0x05, 0x30, 0x06, 0x30, 0x07, 0x30] && t.row = 1) = true := by decide +kernel
theorem witness_packRgb8p_row : ∃ j, RowRuns .pack .rgb8p (reqFields 0x48110) packRgb8pState j ∧ overlaps j = false :=
  runs_of_check (by decide +kernel)

def packRgba8pState : State :=
  running (regsOf 0x4C111 8 2 8 rgba 2) (planes 0 [0x00, 0x10, 0x01, 0x10, 0x02, 0x10, 0x03, 0x10, 0x04, 0x10, 0x05, 0x10, 0x06, 0x10, 0x07, 0x10] [0x00, 0x20, 0x01, 0x20, 0x02, 0x20, 0x03, 0x20, 0x04, 0x20, 0x05, 0x20, 0x06, 0x20, 0x07, 0x20] [0x00, 0x30, 0x01, 0x30, 0x02, 0x30, 0x03, 0x30, 0x04, 0x30, 0x05, 0x30, 0x06, 0x30, 0x07, 0x30] [0x00, 0x40, 0x01, 0x40, 0x02, 0x40, 0x03, 0x40, 0x04, 0x40, 0x05, 0x40, 0x06, 0x40, 0x07, 0x40]) 0
theorem test_packRgba8p_row : next? (exec (.packRgba8p (reqFields 0x4C111)) packRgba8pState) (fun t =>
    bytes t.mem 0x8000 64 = [0x00, 0x10, 0x01, 0x10, 0x02, 0x10, 0x03, 0x10, 0x04, 0x10, 0x05, 0x10, 0x06, 0x10, 0x07, 0x10, 0x00, 0x20, 0x01, 0x20, 0x02, 0x20, 0x03, 0x20, 0x04, 0x20, 0x05, 0x20, 0x06, 0x20, 0x07, 0x20, 0x00, 0x30, 0x01, 0x30, 0x02, 0x30, 0x03, 0x30, 0x04, 0x30, 0x05, 0x30, 0x06, 0x30, 0x07, 0x30, 0x00, 0x40, 0x01, 0x40, 0x02, 0x40, 0x03, 0x40, 0x04, 0x40, 0x05, 0x40, 0x06, 0x40, 0x07, 0x40] && t.row = 1) = true := by decide +kernel
theorem witness_packRgba8p_row : ∃ j, RowRuns .pack .rgba8p (reqFields 0x4C111) packRgba8pState j ∧ overlaps j = false :=
  runs_of_check (by decide +kernel)

def packNv12State : State :=
  running (regsOf 0x112 4 2 4 yuv 2) (planes 1 [0x05, 0x06, 0x07, 0x08] [0x23, 0x24] [0x33, 0x34] []) 1
theorem test_packNv12_row : next? (exec (.packNv12 (reqFields 0x112)) packNv12State) (fun t =>
    bytes t.mem 0x8100 4 = [0x05, 0x06, 0x07, 0x08] && bytes t.mem 0x9000 4 = [0x23, 0x33, 0x24, 0x34] && t.row = 2) = true := by decide +kernel
theorem witness_packNv12_row : ∃ j, RowRuns .pack .nv12 (reqFields 0x112) packNv12State j ∧ overlaps j = false :=
  runs_of_check (by decide +kernel)

def packYv12State : State :=
  running (regsOf 0x113 4 2 4 yuv 2) (planes 1 [0x05, 0x06, 0x07, 0x08] [0x23, 0x24] [0x33, 0x34] []) 1
theorem test_packYv12_row : next? (exec (.packYv12 (reqFields 0x113)) packYv12State) (fun t =>
    bytes t.mem 0x8100 4 = [0x05, 0x06, 0x07, 0x08] && bytes t.mem 0x9000 2 = [0x33, 0x34] && bytes t.mem 0xA000 2 = [0x23, 0x24] && t.row = 2) = true := by decide +kernel
theorem witness_packYv12_row : ∃ j, RowRuns .pack .yv12 (reqFields 0x113) packYv12State j ∧ overlaps j = false :=
  runs_of_check (by decide +kernel)

def packAvid28State : State :=
  running (regsOf 0x10114 2 2 2 yuv 2) (planes 0 [0xA5, 0x02, 0x3E, 0x01] [0xFF, 0x03] [0x01, 0x00] []) 0
theorem test_packAvid28_row : next? (exec (.packAvid28 (reqFields 0x10114)) packAvid28State) (fun t =>
    bytes t.mem 0x8000 1 = [0x97] && bytes t.mem 0x9000 4 = [0xFF, 0xA9, 0x00, 0x4F] && t.row = 1) = true := by decide +kernel
theorem witness_packAvid28_row : ∃ j, RowRuns .pack .avid28 (reqFields 0x10114) packAvid28State j ∧ overlaps j = false :=
  runs_of_check (by decide +kernel)

def packAvid214State : State :=
  running (regsOf 0x40115 2 2 2 yuv 2) (planes 0 [0xFF, 0xFF, 0x01, 0x80] [0x00, 0x40] [0x03, 0x00] []) 0
theorem test_packAvid214_row : next? (exec (.packAvid214 (reqFields 0x40115)) packAvid214State) (fun t =>
    bytes t.mem 0x8000 8 = [0x00, 0x10, 0xFF, 0x3F, 0x00, 0x00, 0x00, 0x20] && t.row = 1) = true := by decide +kernel
theorem witness_packAvid214_row : ∃ j, RowRuns .pack .avid214 (reqFields 0x40115) packAvid214State j ∧ overlaps j = false :=
  runs_of_check (by decide +kernel)

def packAvid106State : State :=
  running (regsOf 0x40116 2 2 2 yuv 2) (planes 0 [0x11, 0x11, 0x22, 0x22] [0x33, 0x33] [0x44, 0x44] []) 0
theorem test_packAvid106_row : next? (exec (.packAvid106 (reqFields 0x40116)) packAvid106State) (fun t =>
    bytes t.mem 0x8000 8 = [0x33, 0x33, 0x11, 0x11, 0x44, 0x44, 0x22, 0x22] && t.row = 1) = true := by decide +kernel
theorem witness_packAvid106_row : ∃ j, RowRuns .pack .avid106 (reqFields 0x40116) packAvid106State j ∧ overlaps j = false :=
  runs_of_check (by decide +kernel)

def unpackYuyvState : State := running (regsOf 0x4981 4 1 0 yuv 2) (externals [0x10, 0x51, 0x20, 0x61, 0x30, 0x53, 0x40, 0x62] []) 0
theorem test_unpackYuyv_row : next? (exec (.unpackYuyv (reqFields 0x4981)) unpackYuyvState) (fun t =>
    bytes t.mem 0x1000 4 = [0x10, 0x20, 0x30, 0x40] && bytes t.mem 0x2000 4 = [0x51, 0x52, 0x53, 0x53] && bytes t.mem 0x3000 4 = [0x61, 0x61, 0x62, 0x62] && t.row = 1) = true := by decide +kernel
theorem witness_unpackYuyv_row : ∃ j, RowRuns .unpack .yuyv (reqFields 0x4981) unpackYuyvState j ∧ overlaps j = false :=
  runs_of_check (by decide +kernel)

def unpackUyvyState : State := running (regsOf 0x182 4 1 0 yuv 2) (externals [0x51, 0x10, 0x61, 0x20, 0x52, 0x30, 0x62, 0x40] []) 0
theorem test_unpackUyvy_row : next? (exec (.unpackUyvy (reqFields 0x182)) unpackUyvyState) (fun t =>
    bytes t.mem 0x1000 4 = [0x10, 0x20, 0x30, 0x40] && bytes t.mem 0x2000 2 = [0x51, 0x52] && bytes t.mem 0x3000 2 = [0x61, 0x62] && t.row = 1) = true := by decide +kernel
theorem witness_unpackUyvy_row : ∃ j, RowRuns .unpack .uyvy (reqFields 0x182) unpackUyvyState j ∧ overlaps j = false :=
  runs_of_check (by decide +kernel)

def unpackV210State : State := running (regsOf 0x10183 6 1 0 yuv 2) (externals [0x01, 0x06, 0x14, 0x30, 0x02, 0x09, 0x38, 0x10, 0x02, 0x13, 0x34, 0x20, 0x05, 0x0D, 0x6C, 0x10] []) 0
theorem test_unpackV210_row : next? (exec (.unpackV210 (reqFields 0x10183)) unpackV210State) (fun t =>
    bytes t.mem 0x1000 12 = [0x01, 0x01, 0x02, 0x01, 0x03, 0x01, 0x04, 0x01, 0x05, 0x01, 0x06, 0x01] && bytes t.mem 0x2000 6 = [0x01, 0x02, 0x02, 0x02, 0x03, 0x02] && bytes t.mem 0x3000 6 = [0x01, 0x03, 0x02, 0x03, 0x03, 0x03] && t.row = 1) = true := by decide +kernel
theorem witness_unpackV210_row : ∃ j, RowRuns .unpack .v210 (reqFields 0x10183) unpackV210State j ∧ overlaps j = false :=
  runs_of_check (by decide +kernel)

def unpackYu64State : State := running (regsOf 0x40184 2 1 0 yuv 2) (externals [0x11, 0x11, 0x33, 0x33, 0x22, 0x22, 0x44, 0x44] []) 0
theorem test_unpackYu64_row : next? (exec (.unpackYu64 (reqFields 0x40184)) unpackYu64State) (fun t =>
    bytes t.mem 0x1000 4 = [0x11, 0x11, 0x22, 0x22] && bytes t.mem 0x2000 2 = [0x33, 0x33] && bytes t.mem 0x3000 2 = [0x44, 0x44] && t.row = 1) = true := by decide +kernel
theorem witness_unpackYu64_row : ∃ j, RowRuns .unpack .yu64 (reqFields 0x40184) unpackYu64State j ∧ overlaps j = false :=
  runs_of_check (by decide +kernel)

def unpackRgb24State : State := running (regsOf 0x8185 2 1 0 rgb 2) (externals [0x33, 0x22, 0x11, 0x80, 0x00, 0xFF] []) 0
theorem test_unpackRgb24_row : next? (exec (.unpackRgb24 (reqFields 0x8185)) unpackRgb24State) (fun t =>
    bytes t.mem 0x1000 2 = [0x11, 0xFF] && bytes t.mem 0x2000 2 = [0x22, 0x00] && bytes t.mem 0x3000 2 = [0x33, 0x80] && t.row = 1) = true := by decide +kernel
theorem witness_unpackRgb24_row : ∃ j, RowRuns .unpack .rgb24 (reqFields 0x8185) unpackRgb24State j ∧ overlaps j = false :=
  runs_of_check (by decide +kernel)

def unpackRgb32State : State := running (regsOf 0x10C186 2 1 0 rgba 2) (externals [0x33, 0x22, 0x11, 0x99, 0x80, 0x00, 0xFF, 0x77] []) 0
theorem test_unpackRgb32_row : next? (exec (.unpackRgb32 (reqFields 0x10C186)) unpackRgb32State) (fun t =>
    bytes t.mem 0x1000 2 = [0x11, 0xFF] && bytes t.mem 0x2000 2 = [0x22, 0x00] && bytes t.mem 0x3000 2 = [0x33, 0x80] && bytes t.mem 0x4000 2 = [0xEE, 0xEE] && t.row = 1) = true := by decide +kernel
theorem witness_unpackRgb32_row : ∃ j, RowRuns .unpack .rgb32 (reqFields 0x10C186) unpackRgb32State j ∧ overlaps j = false :=
  runs_of_check (by decide +kernel)

def unpackRgba32State : State := running (regsOf 0x10C187 2 1 0 rgba 2) (externals [0x33, 0x22, 0x11, 0x80, 0x80, 0x00, 0xFF, 0xFF] []) 0
theorem test_unpackRgba32_row : next? (exec (.unpackRgba32 (reqFields 0x10C187)) unpackRgba32State) (fun t =>
    bytes t.mem 0x1000 2 = [0x11, 0xFF] && bytes t.mem 0x2000 2 = [0x22, 0x00] && bytes t.mem 0x3000 2 = [0x33, 0x80] && bytes t.mem 0x4000 2 = [0x7F, 0xEE] && t.row = 1) = true := by decide +kernel
theorem witness_unpackRgba32_row : ∃ j, RowRuns .unpack .rgba32 (reqFields 0x10C187) unpackRgba32State j ∧ overlaps j = false :=
  runs_of_check (by decide +kernel)

def unpackRgb48State : State := running (regsOf 0x48188 2 1 0 rgb 2) (externals [0x22, 0x11, 0x44, 0x33, 0x66, 0x55, 0xFF, 0xFF, 0x00, 0x00, 0x00, 0x80] []) 0
theorem test_unpackRgb48_row : next? (exec (.unpackRgb48 (reqFields 0x48188)) unpackRgb48State) (fun t =>
    bytes t.mem 0x1000 4 = [0x22, 0x11, 0xFF, 0xFF] && bytes t.mem 0x2000 4 = [0x44, 0x33, 0x00, 0x00] && bytes t.mem 0x3000 4 = [0x66, 0x55, 0x00, 0x80] && t.row = 1) = true := by decide +kernel
theorem witness_unpackRgb48_row : ∃ j, RowRuns .unpack .rgb48 (reqFields 0x48188) unpackRgb48State j ∧ overlaps j = false :=
  runs_of_check (by decide +kernel)

def unpackRgba64State : State := running (regsOf 0x4C189 1 1 0 rgba 2) (externals [0x22, 0x11, 0x44, 0x33, 0x66, 0x55, 0x88, 0x77] []) 0
theorem test_unpackRgba64_row : next? (exec (.unpackRgba64 (reqFields 0x4C189)) unpackRgba64State) (fun t =>
    bytes t.mem 0x1000 2 = [0x22, 0x11] && bytes t.mem 0x2000 2 = [0x44, 0x33] && bytes t.mem 0x3000 2 = [0x66, 0x55] && bytes t.mem 0x4000 2 = [0x88, 0x77] && t.row = 1) = true := by decide +kernel
theorem witness_unpackRgba64_row : ∃ j, RowRuns .unpack .rgba64 (reqFields 0x4C189) unpackRgba64State j ∧ overlaps j = false :=
  runs_of_check (by decide +kernel)

def unpackBgra64State : State := running (regsOf 0x4C18A 1 1 0 rgba 2) (externals [0x66, 0x55, 0x44, 0x33, 0x22, 0x11, 0x88, 0x77] []) 0
theorem test_unpackBgra64_row : next? (exec (.unpackBgra64 (reqFields 0x4C18A)) unpackBgra64State) (fun t =>
    bytes t.mem 0x1000 2 = [0x22, 0x11] && bytes t.mem 0x2000 2 = [0x44, 0x33] && bytes t.mem 0x3000 2 = [0x66, 0x55] && bytes t.mem 0x4000 2 = [0x88, 0x77] && t.row = 1) = true := by decide +kernel
theorem witness_unpackBgra64_row : ∃ j, RowRuns .unpack .bgra64 (reqFields 0x4C18A) unpackBgra64State j ∧ overlaps j = false :=
  runs_of_check (by decide +kernel)

def unpackRg30State : State := running (regsOf 0x1818B 2 1 0 rgb 2) (externals [0xFF, 0x57, 0xA5, 0x2A, 0x01, 0x08, 0x30, 0x00] []) 0
theorem test_unpackRg30_row : next? (exec (.unpackRg30 (reqFields 0x1818B)) unpackRg30State) (fun t =>
    bytes t.mem 0x1000 4 = [0xFF, 0x03, 0x01, 0x00] && bytes t.mem 0x2000 4 = [0x55, 0x01, 0x02, 0x00] && bytes t.mem 0x3000 4 = [0xAA, 0x02, 0x03, 0x00] && t.row = 1) = true := by decide +kernel
theorem witness_unpackRg30_row : ∃ j, RowRuns .unpack .rg30 (reqFields 0x1818B) unpackRg30State j ∧ overlaps j = false :=
  runs_of_check (by decide +kernel)

def unpackAr10State : State := running (regsOf 0x1818C 2 1 0 rgb 2) (externals [0xAA, 0x56, 0xF5, 0x3F, 0x03, 0x08, 0x10, 0x00] []) 0
theorem test_unpackAr10_row : next? (exec (.unpackAr10 (reqFields 0x1818C)) unpackAr10State) (fun t =>
    bytes t.mem 0x1000 4 = [0xFF, 0x03, 0x01, 0x00] && bytes t.mem 0x2000 4 = [0x55, 0x01, 0x02, 0x00] && bytes t.mem 0x3000 4 = [0xAA, 0x02, 0x03, 0x00] && t.row = 1) = true := by decide +kernel
theorem witness_unpackAr10_row : ∃ j, RowRuns .unpack .ar10 (reqFields 0x1818C) unpackAr10State j ∧ overlaps j = false :=
  runs_of_check (by decide +kernel)

def unpackAb10State : State := running (regsOf 0x1818D 2 1 0 rgb 2) (externals [0xFF, 0x57, 0xA5, 0x2A, 0x01, 0x08, 0x30, 0x00] []) 0
theorem test_unpackAb10_row : next? (exec (.unpackAb10 (reqFields 0x1818D)) unpackAb10State) (fun t =>
    bytes t.mem 0x1000 4 = [0xFF, 0x03, 0x01, 0x00] && bytes t.mem 0x2000 4 = [0x55, 0x01, 0x02, 0x00] && bytes t.mem 0x3000 4 = [0xAA, 0x02, 0x03, 0x00] && t.row = 1) = true := by decide +kernel
theorem witness_unpackAb10_row : ∃ j, RowRuns .unpack .ab10 (reqFields 0x1818D) unpackAb10State j ∧ overlaps j = false :=
  runs_of_check (by decide +kernel)

def unpackR210State : State := running (regsOf 0x1818E 2 1 0 rgb 2) (externals [0x3F, 0xF5, 0x56, 0xAA, 0x00, 0x10, 0x08, 0x03] []) 0
theorem test_unpackR210_row : next? (exec (.unpackR210 (reqFields 0x1818E)) unpackR210State) (fun t =>
    bytes t.mem 0x1000 4 = [0xFF, 0x03, 0x01, 0x00] && bytes t.mem 0x2000 4 = [0x55, 0x01, 0x02, 0x00] && bytes t.mem 0x3000 4 = [0xAA, 0x02, 0x03, 0x00] && t.row = 1) = true := by decide +kernel
theorem witness_unpackR210_row : ∃ j, RowRuns .unpack .r210 (reqFields 0x1818E) unpackR210State j ∧ overlaps j = false :=
  runs_of_check (by decide +kernel)

def unpackDpx0State : State := running (regsOf 0x4818F 1 1 0 rgb 2) (externals [0xFF, 0xD5, 0x5A, 0xA8] []) 0
theorem test_unpackDpx0_row : next? (exec (.unpackDpx0 (reqFields 0x4818F)) unpackDpx0State) (fun t =>
    bytes t.mem 0x1000 2 = [0xC0, 0xFF] && bytes t.mem 0x2000 2 = [0x40, 0x55] && bytes t.mem 0x3000 2 = [0x80, 0xAA] && t.row = 1) = true := by decide +kernel
theorem witness_unpackDpx0_row : ∃ j, RowRuns .unpack .dpx0 (reqFields 0x4818F) unpackDpx0State j ∧ overlaps j = false :=
  runs_of_check (by decide +kernel)

def unpackRgb8pState : State := running (regsOf 0x48190 8 1 0 rgb 2) (externals [0x00, 0x10, 0x01, 0x10, 0x02, 0x10, 0x03, 0x10, 0x04, 0x10, 0x05, 0x10, 0x06, 0x10, 0x07, 0x10, 0x00, 0x20, 0x01, 0x20, 0x02, 0x20, 0x03, 0x20, 0x04, 0x20, 0x05, 0x20, 0x06, 0x20, 0x07, 0x20, 0x00, 0x30, 0x01, 0x30, 0x02, 0x30, 0x03, 0x30, 0x04, 0x30, 0x05, 0x30, 0x06, 0x30, 0x07, 0x30] []) 0
theorem test_unpackRgb8p_row : next? (exec (.unpackRgb8p (reqFields 0x48190)) unpackRgb8pState) (fun t =>
    bytes t.mem 0x1000 16 = [0x00, 0x10, 0x01, 0x10, 0x02, 0x10, 0x03, 0x10, 0x04, 0x10, 0x05, 0x10, 0x06, 0x10, 0x07, 0x10] && bytes t.mem 0x2000 16 = [0x00, 0x20, 0x01, 0x20, 0x02, 0x20, 0x03, 0x20, 0x04, 0x20, 0x05, 0x20, 0x06, 0x20, 0x07, 0x20] && bytes t.mem 0x3000 16 = [0x00, 0x30, 0x01, 0x30, 0x02, 0x30, 0x03, 0x30, 0x04, 0x30, 0x05, 0x30, 0x06, 0x30, 0x07, 0x30] && t.row = 1) = true := by decide +kernel
theorem witness_unpackRgb8p_row : ∃ j, RowRuns .unpack .rgb8p (reqFields 0x48190) unpackRgb8pState j ∧ overlaps j = false :=
  runs_of_check (by decide +kernel)

def unpackRgba8pState : State := running (regsOf 0x4C191 8 1 0 rgba 2) (externals [0x00, 0x10, 0x01, 0x10, 0x02, 0x10, 0x03, 0x10, 0x04, 0x10, 0x05, 0x10, 0x06, 0x10, 0x07, 0x10, 0x00, 0x20, 0x01, 0x20, 0x02, 0x20, 0x03, 0x20, 0x04, 0x20, 0x05, 0x20, 0x06, 0x20, 0x07, 0x20, 0x00, 0x30, 0x01, 0x30, 0x02, 0x30, 0x03, 0x30, 0x04, 0x30, 0x05, 0x30, 0x06, 0x30, 0x07, 0x30, 0x00, 0x40, 0x01, 0x40, 0x02, 0x40, 0x03, 0x40, 0x04, 0x40, 0x05, 0x40, 0x06, 0x40, 0x07, 0x40] []) 0
theorem test_unpackRgba8p_row : next? (exec (.unpackRgba8p (reqFields 0x4C191)) unpackRgba8pState) (fun t =>
    bytes t.mem 0x1000 16 = [0x00, 0x10, 0x01, 0x10, 0x02, 0x10, 0x03, 0x10, 0x04, 0x10, 0x05, 0x10, 0x06, 0x10, 0x07, 0x10] && bytes t.mem 0x2000 16 = [0x00, 0x20, 0x01, 0x20, 0x02, 0x20, 0x03, 0x20, 0x04, 0x20, 0x05, 0x20, 0x06, 0x20, 0x07, 0x20] && bytes t.mem 0x3000 16 = [0x00, 0x30, 0x01, 0x30, 0x02, 0x30, 0x03, 0x30, 0x04, 0x30, 0x05, 0x30, 0x06, 0x30, 0x07, 0x30] && bytes t.mem 0x4000 16 = [0x00, 0x40, 0x01, 0x40, 0x02, 0x40, 0x03, 0x40, 0x04, 0x40, 0x05, 0x40, 0x06, 0x40, 0x07, 0x40] && t.row = 1) = true := by decide +kernel
theorem witness_unpackRgba8p_row : ∃ j, RowRuns .unpack .rgba8p (reqFields 0x4C191) unpackRgba8pState j ∧ overlaps j = false :=
  runs_of_check (by decide +kernel)

def unpackAvid28State : State := running (regsOf 0x10194 2 1 0 yuv 2) (externals [0x67] [0xFF, 0xA9, 0x00, 0x4F]) 0
theorem test_unpackAvid28_row : next? (exec (.unpackAvid28 (reqFields 0x10194)) unpackAvid28State) (fun t =>
    bytes t.mem 0x1000 4 = [0xA5, 0x02, 0x3D, 0x01] && bytes t.mem 0x2000 2 = [0xFF, 0x03] && bytes t.mem 0x3000 2 = [0x02, 0x00] && t.row = 1) = true := by decide +kernel
theorem witness_unpackAvid28_row : ∃ j, RowRuns .unpack .avid28 (reqFields 0x10194) unpackAvid28State j ∧ overlaps j = false :=
  runs_of_check (by decide +kernel)

def unpackAvid214State : State := running (regsOf 0x40195 2 1 0 yuv 2) (externals [0x00, 0x10, 0xFF, 0xFF, 0x00, 0x00, 0x00, 0x20] []) 0
theorem test_unpackAvid214_row : next? (exec (.unpackAvid214 (reqFields 0x40195)) unpackAvid214State) (fun t =>
    bytes t.mem 0x1000 4 = [0xFC, 0xFF, 0x00, 0x80] && bytes t.mem 0x2000 2 = [0x00, 0x40] && bytes t.mem 0x3000 2 = [0x00, 0x00] && t.row = 1) = true := by decide +kernel
theorem witness_unpackAvid214_row : ∃ j, RowRuns .unpack .avid214 (reqFields 0x40195) unpackAvid214State j ∧ overlaps j = false :=
  runs_of_check (by decide +kernel)

def unpackAvid106State : State := running (regsOf 0x40196 2 1 0 yuv 2) (externals [0x33, 0x33, 0x11, 0x11, 0x44, 0x44, 0x22, 0x22] []) 0
theorem test_unpackAvid106_row : next? (exec (.unpackAvid106 (reqFields 0x40196)) unpackAvid106State) (fun t =>
    bytes t.mem 0x1000 4 = [0x11, 0x11, 0x22, 0x22] && bytes t.mem 0x2000 2 = [0x33, 0x33] && bytes t.mem 0x3000 2 = [0x44, 0x44] && t.row = 1) = true := by decide +kernel
theorem witness_unpackAvid106_row : ∃ j, RowRuns .unpack .avid106 (reqFields 0x40196) unpackAvid106State j ∧ overlaps j = false :=
  runs_of_check (by decide +kernel)

/-! ## Commands and errors -/

/-- An idle engine with a register block. -/
def idle (c : ReqRegs) : State := { State.reset with regs := c }

/-- The registers of `PACK.YUYV`, four pixels by one row. -/
def yuyvRegs : ReqRegs := regsOf 0x101 4 1 4 yuv 2

theorem test_start_valid : next? (exec (.start false true true) (idle yuyvRegs)) (fun t =>
    t.busy && !t.done && t.err = .none && t.row = 0 && t.cur = yuyvRegs && t.ie) = true := by decide +kernel
theorem test_start_after_reset : next? (exec (.start false false false) State.reset) (fun t => statusWord t = 0x12) = true := by
  decide +kernel
theorem test_clr : next? (exec (.clr false true) { State.reset with done := true, err := .roi, row := 3 }) (fun t =>
    statusWord t = 0 && ctrlWord t = 0x100) = true := by decide +kernel
/-- The two examples of R73, read. -/
theorem test_request_line_read :
    (parseRequest ["PACK.V210", "cs=709VS", "p=YUV422:u16"]).map (fun r => reqWord r.1 r.2.1 r.2.2) = some 0x00040603#32
      ∧ (parseRequest ["UNPACK.DPX0", "cs=601CG", "p=RGB:u16"]).map (fun r => reqWord r.1 r.2.1 r.2.2)
        = some 0x0004818F#32 := by decide +kernel
/-- The words of a request with flags, written, by R73. -/
theorem test_request_line_written : (reqView 0x0010C186).map (fun v => requestWords v.1 v.2.1 v.2.2)
    = some ["UNPACK.RGB32", "cs=601CG", "p=RGBA:u8", "acomp"] := by decide +kernel
theorem test_srst : next? (exec (.srst true) { idle yuyvRegs with dstate := 7, done := true }) (fun t =>
    t.regs = ReqRegs.zero && t.dstate = 1 && !t.done && t.ie) = true := by decide +kernel
theorem test_srst_then_start : next? (exec (.start true false false) (idle yuyvRegs)) (fun t => statusWord t = 0x12) = true := by
  decide +kernel
theorem test_error_fmt_mode : validate { yuyvRegs with ditherCtl := 3 } = some .fmt := by decide +kernel
theorem test_error_fmt_tags : validate (regsOf 0x101 4 1 4 (1, 2, 2, 0) 2) = some .fmt := by decide +kernel
theorem test_error_combo_first : validate (regsOf 0x192 3 1 4 yuv 2) = some .combo := by decide +kernel
theorem test_error_roi_planes : validate (regsOf 0x105 3 1 4 yuv 2) = some .roi := by decide +kernel
theorem test_valid_odd_width : validate (regsOf 0x8105 3 3 3 rgb 2) = none := by decide +kernel
theorem test_unpackNv12 : next? (exec (.unpackNv12 (reqFields 0x192)) (running (regsOf 0x192 4 1 4 yuv 2) [] 0)) (fun t =>
    statusWord t = 0x32) = true := by decide +kernel
theorem test_unpackYv12 : next? (exec (.unpackYv12 (reqFields 0x193)) (running (regsOf 0x193 3 1 4 yuv 2) [] 0)) (fun t =>
    statusWord t = 0x32) = true := by decide +kernel
theorem test_fetch_word : next? (step (State.reset.withFetchWord 32 0x93)) (fun t => statusWord t = 0x12) = true := by
  decide +kernel
theorem test_fetch_command : next? (step (State.reset.withFetchWord 8 4)) (fun t => t = State.reset) = true := by
  decide +kernel
theorem test_seeded_draws : (seededNext 1, seededValue (seededNext 1) 8, seededValue (seededNext (seededNext 1)) 8)
    = (0x3C88596C, 30, 47) := by decide +kernel
theorem test_seeded_row : next? (exec (.packRgb24 (reqFields 0x48105)) (running (regsOf 0x48105 2 1 2 rgb 1)
    (planes 0 (le16 [0xABCD, 0xFFFF]) (le16 [0xAB80, 0]) (le16 [0xAB81, 0x8000]) []) 0)) (fun t =>
    bytes t.mem 0x8000 6 = [0xAB, 0xAB, 0xAB, 0x80, 0x00, 0xFF] && t.dstate = 0x5E98C13F) = true := by decide +kernel
theorem test_default_table_is_legal : Cmt.default.ok = true := by decide +kernel

/-! ## Witnesses: decoding and commands -/

theorem witness_EncodeInvertsDecode :
    decode .request 0x00000101 = some (.packYuyv ⟨1, false, false, false, .yuv422, 0, false, false⟩) := test_decode_packYuyv

theorem witness_StartBeginsValidRequest : (idle yuyvRegs).busy = false ∧ validate (idle yuyvRegs).regs = none
    ∧ ∀ j, prepareLatched (idle yuyvRegs).cmt (idle yuyvRegs).regs = .ok j →
      ∀ r ∈ (idle yuyvRegs).platform.devices, footprintTouches j r = false :=
  ⟨rfl, by decide +kernel, fun _ _ _ h => nomatch h⟩

theorem witness_StartRecordsConfigurationError : State.reset.busy = false ∧ validate State.reset.regs = some .csd :=
  ⟨rfl, by decide +kernel⟩

/-- A platform with a device at the first plane. -/
def overDevice : State := { idle yuyvRegs with platform := { regBase := 0, unbacked := [], devices := [⟨0x1000, 1⟩] } }

theorem witness_StartOverDevicesIsRefused : ∃ j, overDevice.busy = false
    ∧ prepareLatched overDevice.cmt overDevice.regs = .ok j ∧ (⟨0x1000, 1⟩ : Region) ∈ overDevice.platform.devices
    ∧ footprintTouches j ⟨0x1000, 1⟩ = true := by
  have h : (match prepareLatched overDevice.cmt overDevice.regs with
    | .ok j => footprintTouches j ⟨0x1000, 1⟩
    | .error _ => false) = true := by decide +kernel
  cases hp : prepareLatched overDevice.cmt overDevice.regs with
  | error e => rw [hp] at h; cases h
  | ok j => rw [hp] at h; exact ⟨j, rfl, rfl, List.mem_cons_self, h⟩

/-- A busy engine whose host's next action is a write to a register. -/
def busyWrite (a v : Word) : State := { running yuyvRegs [] 0 with host := [.regWrite a .word v] }

theorem witness_WritesWhileBusyAreIgnored_ctrl : (busyWrite 0 7).busy = true ∧ (busyWrite 0 7).rst = false
    ∧ (busyWrite 0 7).host = .regWrite 0 .word 7 :: [] ∧ regOf (busyWrite 0 7).platform 0 .word = some .ctrl :=
  ⟨rfl, rfl, rfl, by decide +kernel⟩
theorem witness_WritesWhileBusyAreIgnored_last : (busyWrite 0x7C 7).busy = true ∧ (busyWrite 0x7C 7).rst = false
    ∧ (busyWrite 0x7C 7).host = .regWrite 0x7C .word 7 :: [] ∧ regOf (busyWrite 0x7C 7).platform 0x7C .word = some .reserved :=
  ⟨rfl, rfl, rfl, by decide +kernel⟩

theorem witness_ClrClearsStatus_SrstResetsRegisters : State.reset.busy = false ∧ (running yuyvRegs [] 0).busy = true :=
  ⟨rfl, rfl⟩

/-- The five outcomes of `Validate`, at boundary values of the fields (section 2.7 of 95_test_vectors.md). -/
theorem witness_ValidateReportsFirstError :
    (((0x701 : Word).extractLsb' 8 3).toNat ∉ [1, 2, 5, 6])
      ∧ (((0x117 : Word).extractLsb' 8 3).toNat ∈ [1, 2, 5, 6] ∧ 23 ≤ ((0x117 : Word).extractLsb' 0 6).toNat)
      ∧ validate (regsOf 0x701 3 1 4 yuv 2) = some .csd ∧ validate (regsOf 0x117 4 1 4 yuv 2) = some .fmt
      ∧ validate (regsOf 0x50101 4 1 4 yuv 2) = some .fmt ∧ validate (regsOf 0x80101 4 1 4 yuv 2) = some .fmt
      ∧ validate (regsOf 0x193 4 1 4 yuv 2) = some .combo ∧ validate (regsOf 0x112 4 3 4 yuv 2) = some .roi
      ∧ validate (regsOf 0x10103 6 1 8 yuv 2) = some .roi ∧ validate (regsOf 0x101 4 1 2 yuv 2) = some .roi
      ∧ validate (regsOf 0x181 4 1 0 yuv 2) = none := by decide +kernel

/-! ## Witnesses: registers -/

theorem witness_RegistersReadBackWhatIsWritten : State.reset.busy = false ∧ Reg.frame ≠ .status ∧ Reg.roi ≠ .frame := by decide

/-- An idle engine whose host's next action is `a`. -/
def hostTurn (a : HostAct) : State := { State.reset with host := [a] }

/-- A write of a word with `IE` and no command to `CTRL`, a write to the last register, a read, and a `WAIT` after `DONE`. -/
theorem witness_RegistersReadBackWhatIsWritten_steps :
    (hostTurn (.regWrite 0 .word 0x100)).rst = false ∧ (0x100 : Word) &&& 7 = 0
      ∧ regOf State.reset.platform 0 .word = some .ctrl ∧ regOf State.reset.platform 0x64 .word = some (.extPitch 2)
      ∧ next? (step (hostTurn (.regWrite 0 .word 0x100))) (fun t => t = { State.reset with ie := true }) = true
      ∧ next? (step (hostTurn (.regWrite 0x64 .word 9))) (fun t => readReg t (.extPitch 2) = 9) = true
      ∧ next? (step (hostTurn (.regRead 0x18 .word))) (fun t => t.readData = 1) = true
      ∧ ({ hostTurn .wait with done := true } : State).host = .wait :: []
      ∧ next? (step { hostTurn .wait with done := true }) (fun t => t.readData = 2) = true := by decide +kernel

theorem witness_RegisterBlockMap : ({ regBase := 0xFFFFFF80, unbacked := [], devices := [] } : Platform).regBase.toNat + 0x80
    ≤ 2 ^ 32 := by decide

theorem witness_AccessesOutsideBlockAreRefused :
    AccessWidth.half ≠ .word ∧ (0 : Word).toNat < (0x80 : Word).toNat ∧ (0x0 : Word).toNat + 0x7C < (0x7D : Word).toNat
      ∧ ((2 : Word).toNat - (0 : Word).toNat) % 4 ≠ 0
      ∧ ({ State.reset with host := [.regRead 2 .word] } : State).host = .regRead 2 .word :: [] := by decide

/-- Each code of R210 as `STATUS` shows it. -/
theorem test_error_codes : [ErrCode.none, .csd, .fmt, .combo, .roi, .bus].map (fun e =>
    (statusWord { State.reset with err := e }).toNat) = [0, 0x10, 0x20, 0x30, 0x40, 0x50] := by decide +kernel

theorem witness_StatusAndInterruptBits : State.reset.rst = false ∧ (assertReset State.reset).rst = true := ⟨rfl, rfl⟩

theorem witness_ResetInputAbandonsAndResets :
    ({ running yuyvRegs [] 0 with host := [.reset true] } : State).host = .reset true :: []
      ∧ ({ assertReset State.reset with host := [.reset false] } : State).rst = true
      ∧ ({ assertReset State.reset with host := [.regWrite 8 .word 5] } : State).host = .regWrite 8 .word 5 :: []
      ∧ regOf (assertReset State.reset).platform 8 .word = some .reqOp ∧ (assertReset State.reset).host = [] :=
  ⟨rfl, rfl, rfl, by decide +kernel, rfl⟩

theorem witness_ResetInputAbandonsAndResets_turns :
    ({ hostTurn .engine with rst := true } : State).host = .engine :: []
      ∧ ({ hostTurn .wait with rst := true } : State).host = .wait :: []
      ∧ ({ hostTurn .wait with rst := true } : State).done = false := ⟨rfl, rfl, rfl⟩

/-! ## Witnesses: steps and requests -/

theorem witness_StepRunsDecodedInstruction_request : packYuyvState.busy = true ∧ packYuyvState.rst = false
    ∧ decode .request packYuyvState.cur.reqOp = some (.packYuyv ⟨1, false, false, false, .yuv422, 0, false, false⟩)
    ∧ packYuyvState.host = [] ∧ packYuyvState.done = false := ⟨rfl, rfl, by decide +kernel, rfl, rfl⟩

/-- The engine's turn given by the entry `engine`, and by a `WAIT` that does not yet see `DONE = 1` and stays. -/
theorem witness_StepRunsDecodedInstruction_turns :
    ({ packYuyvState with host := [.engine] } : State).busy = true
      ∧ ({ packYuyvState with host := [.engine] } : State).host = .engine :: []
      ∧ ({ packYuyvState with host := [.wait] } : State).host = .wait :: []
      ∧ ({ packYuyvState with host := [.wait] } : State).done = false
      ∧ next? (step { packYuyvState with host := [.engine] }) (fun t => t.row = 1 && t.host = []) = true
      ∧ next? (step { packYuyvState with host := [.wait] }) (fun t => t.row = 1 && t.host = [.wait]) = true := by
  decide +kernel

theorem witness_StepRunsDecodedInstruction_command : (busyWrite 0 3).rst = false
    ∧ regOf (busyWrite 0 3).platform 0 .word = some .ctrl ∧ decode .command 3 = some (.start false true false) :=
  ⟨rfl, by decide +kernel, by decide +kernel⟩

/-- The decoded form of a state's latched request. -/
def jobOf (s : State) : Option Job :=
  match prepareLatched s.cmt s.cur with
  | .ok j => some j
  | .error _ => none

/-- A fact about the request of direction `d`, format `f` and fields `q` latched in `s`. -/
theorem job_of_check {s : State} {d : Dir} {f : Fmt} {q : ReqFields} {p : Job → Bool}
    (h : (match prepare s.cmt d f q s.cur with | .ok j => p j | .error _ => false) = true) :
    ∃ j, prepare s.cmt d f q s.cur = .ok j ∧ p j = true := by
  cases hp : prepare s.cmt d f q s.cur with
  | error e => rw [hp] at h; cases h
  | ok j => rw [hp] at h; exact ⟨j, rfl, h⟩

/-- The last row of a one-row request is done. -/
def rowsDone : State := running yuyvRegs [] 1

theorem witness_RequestCompletesAfterItsRows : rowsDone.busy = true ∧ rowsDone.tainted = false
    ∧ ∃ j, prepare rowsDone.cmt .pack .yuyv (reqFields 0x101) rowsDone.cur = .ok j
      ∧ (decide (j.h ≤ rowsDone.row.toNat) && !overlaps j) = true := ⟨rfl, rfl, job_of_check (by decide +kernel)⟩

theorem test_completion : next? (exec (.packYuyv (reqFields 0x101)) rowsDone) (fun t => statusWord t = 0x10002) = true := by
  decide +kernel

theorem witness_RequestFrame : next? (exec (.packYuyv (reqFields 0x101)) packYuyvState) (fun _ => true) = true
    ∧ next? (exec (.packYuyv (reqFields 0x101)) State.reset) (fun t => t = State.reset) = true := by decide +kernel

/-- A row whose luma plane lies at an unbacked byte, and one whose external row does. -/
def unbackedAt (a : Nat) : State :=
  { packYuyvState with platform := { regBase := 0, unbacked := [⟨a, 1⟩], devices := [] } }

theorem test_bus_error_read : next? (exec (.packYuyv (reqFields 0x101)) (unbackedAt 0x1003)) (fun t =>
    statusWord t = 0x52 && t.mem = packYuyvState.mem) = true := by decide +kernel

theorem witness_ReadBusErrorEndsRequest : (unbackedAt 0x1003).busy = true ∧ (unbackedAt 0x1003).tainted = false
    ∧ ∃ j, prepare (unbackedAt 0x1003).cmt .pack .yuyv (reqFields 0x101) (unbackedAt 0x1003).cur = .ok j
      ∧ (decide ((unbackedAt 0x1003).row.toNat < j.h) && !overlaps j
        && decide ((rowReads j 0).head? = some ⟨0x1000, 4⟩) && !accessOk (unbackedAt 0x1003).platform (0x1000 + 3) 1) = true :=
  ⟨rfl, rfl, job_of_check (by decide +kernel)⟩

theorem witness_WriteBusErrorEndsRequest : (unbackedAt 0x8007).mem.wf = true ∧ (unbackedAt 0x8007).tainted = false
    ∧ ∃ j, prepare (unbackedAt 0x8007).cmt .pack .yuyv (reqFields 0x101) (unbackedAt 0x8007).cur = .ok j
      ∧ (decide ((unbackedAt 0x8007).row.toNat < j.h) && !overlaps j && decide (rowWrites j 0 = [⟨0x8000, 8⟩])
        && (rowReads j 0).all (fun sp => accessOk (unbackedAt 0x8007).platform sp.start sp.len)
        && !accessOk (unbackedAt 0x8007).platform (0x8000 + 7) 1) = true :=
  ⟨by decide +kernel, rfl, job_of_check (by decide +kernel)⟩

theorem witness_UnpackPlanar420EndsWithCombo : (reqFields 0x192).legal = true
    ∧ (idle (regsOf 0x192 3 1 4 yuv 2)).busy = false ∧ (idle (regsOf 0x192 3 1 4 yuv 2)).regs.reqOp
      = reqWord .unpack .nv12 (reqFields 0x192) ∧ decodeMode 2 ≠ none
    ∧ tagsBad (regsOf 0x192 3 1 4 yuv 2) (reqFields 0x192).pfam = false
    ∧ (0x193 : Word) = reqWord .unpack .yv12 (reqFields 0x193) := by decide +kernel

/-- The invariant holds of a running request. -/
theorem witness_StepKeepsInvariant : Inv packYuyvState ∧ ∃ t, step packYuyvState = .next t := by
  refine ⟨⟨by decide +kernel, by decide +kernel, fun _ => by decide +kernel, fun h => absurd rfl h, fun h => nomatch h⟩, ?_⟩
  have h : next? (step packYuyvState) (fun _ => true) = true := by decide +kernel
  cases hs : step packYuyvState with
  | next t => exact ⟨t, rfl⟩
  | fault r => rw [hs] at h; cases h
  | refused r => rw [hs] at h; cases h

theorem witness_ValidRequestAlwaysEnds : packYuyvState.busy = true ∧ packYuyvState.done = false
    ∧ packYuyvState.err = .none ∧ packYuyvState.rst = false ∧ packYuyvState.host = []
    ∧ (jobOf packYuyvState).map (fun j => decide (packYuyvState.row.toNat ≤ j.h)) = some true := by decide +kernel

theorem witness_TablesNeverChange_SeedChanges_MemoryChanges :
    next? (step State.reset) (fun _ => true) = true
      ∧ next? (step { State.reset with host := [.regWrite 0x18 .word 9] }) (fun t => t.dstate = 9) = true
      ∧ next? (step { State.reset with host := [.memWrite 0xFFFFFFFF 9] }) (fun t => t.mem = [(0xFFFFFFFF, 9)]) = true := by
  decide +kernel

/-- Each way `dstate` changes: a seeded row, the reset input, its release, and a word with the `SRST` bit. -/
theorem witness_SeedChangesOnlyAsStated :
    next? (step (running (regsOf 0x48105 2 1 2 rgb 1) [] 0)) (fun t => t.dstate = seededNext^[6] 1) = true
      ∧ decodeMode (regsOf 0x48105 2 1 2 rgb 1).ditherCtl = some .seeded
      ∧ next? (step { hostTurn (.reset true) with dstate := 7 }) (fun t => t.dstate = 1) = true
      ∧ next? (step { hostTurn (.reset false) with dstate := 7, rst := true }) (fun t => t.dstate = 1) = true
      ∧ next? (step { hostTurn (.regWrite 0 .word 4) with dstate := 7 }) (fun t => t.dstate = 1) = true
      ∧ next? (step { hostTurn (.regWrite 0 .word 3) with dstate := 7 }) (fun t => t.dstate = 7) = true := by decide +kernel

/-- A host read and write of the last byte of the space. -/
theorem witness_MemoryChangesOnlyInFootprint : accessOk State.reset.platform (0xFFFFFFFF : Word).toNat 1 = true
    ∧ State.reset.mem.wf = true ∧ State.reset.platform.devices = []
    ∧ runningWrites (hostTurn (.memRead 0xFFFFFFFF)) = []
    ∧ inSpans 0x1000 (runningWrites packYuyvState) = false ∧ inSpans 0x8007 (runningWrites packYuyvState) = true
    ∧ next? (step { hostTurn (.memRead 0xFFFFFFFF) with mem := [(0xFFFFFFFF, 9)] }) (fun t => t.readData = 9) = true := by
  decide +kernel

theorem witness_RowDependsOnlyOnBytesRead : Memory.wf (storeByte packYuyvState.mem 0x1004 5) = true
    ∧ (∃ j, RowRuns .pack .yuyv (reqFields 0x101) packYuyvState j
      ∧ ∀ a : Nat, Covers (rowReads j packYuyvState.row.toNat) a →
        loadByte (storeByte packYuyvState.mem 0x1004 5) a = loadByte packYuyvState.mem a) := by
  refine ⟨by decide +kernel, ?_⟩
  obtain ⟨j, hj, -⟩ := witness_packYuyv_row
  refine ⟨j, hj, fun a ha => loadByte_storeByte_of_ne _ _ fun e => ?_⟩
  have hr : (match prepare packYuyvState.cmt .pack .yuyv (reqFields 0x101) packYuyvState.cur with
      | .ok j => decide (rowReads j 0 = [⟨0x1000, 4⟩, ⟨0x2000, 2⟩, ⟨0x3000, 2⟩])
      | .error _ => false) = true := by decide +kernel
  rw [hj.2.2.1] at hr
  have h0 : packYuyvState.row.toNat = 0 := rfl
  rw [h0, of_decide_eq_true hr] at ha
  obtain ⟨sp, hs, h1, h2⟩ := ha
  subst e
  simp only [List.mem_cons, List.not_mem_nil, or_false] at hs
  rcases hs with rfl | rfl | rfl <;> simp at h1 h2

/-! ## Witnesses: samples and single operations -/

/-- A request with operands of one's choice. -/
def job (d : Dir) (f : Fmt) (q : ReqFields) (s : Nat) (mode : DitherMode) : Job :=
  ⟨d, f, q, regsOf (reqWord d f q) 4 2 4 yuv 2, s, mode, Cmt.default.e601cg⟩

/-- Fields with a family and flags of one's choice. -/
def flags (fam : Family) (ups c709 acomp : Bool) : ReqFields := ⟨1, ups, c709, false, fam, 0, false, acomp⟩

/-- A two-pixel row that fits the format. -/
def sampleRow (f : Fmt) : Arrays :=
  { c0 := [1, 2], c1 := tabulate (ncols (fmtKind f) 2 .u) id, c2 := tabulate (ncols (fmtKind f) 2 .u) id
    a := if fmtKind f = .rgba then [3, 4] else [] }

theorem witness_ExtractInvertsPlace : ∀ f ∈ [Fmt.yuyv, .yu64, .rgb24, .rgb32, .rgba32, .bgra64, .dpx0, .avid28, .avid214],
    let j : Job := ⟨.pack, f, flags .rgb false false false, regsOf 0 2 1 2 rgb 2, 8, .off, Cmt.default.e601cg⟩
    j.fmt ≠ .nv12 ∧ j.fmt ≠ .yv12 ∧ Memory.wf [] = true ∧ j.fw = j.w ∧ j.w % fmtPeriod j.fmt = 0
      ∧ (sampleRow f).c0.length = j.w ∧ (sampleRow f).c1.length = ncols (fmtKind f) j.w .u
      ∧ (sampleRow f).a.length = (if fmtKind f = .rgba then j.w else 0)
      ∧ (extSpans j j.w 0).all (fun sp => accessOk State.reset.platform sp.start sp.len) = true
      ∧ selfMeets (extSpans j j.w 0) = false
      ∧ extractOf j.fmt (memRead State.reset.platform (storeBytes [] ((placeOf j.fmt j 0 (sampleRow f)).flatMap Wr.bytes))) j 0
        = some (sampleRow f) := by decide +kernel

/-- An odd width of planes without halved chroma. -/
theorem witness_ConvertFollowsStructures_odd : validate (regsOf 0x4105 3 1 3 yuv 2) = none
    ∧ roiW (regsOf 0x4105 3 1 3 yuv 2) % 2 = 1 ∧ (reqFields 0x4105).pfam = .yuv444 ∧ fmtKind .rgb24 = .rgb := by decide +kernel

/-- One pair of structures for each clause of `ConvertFollowsStructures`, at an even width. -/
theorem witness_ConvertFollowsStructures :
    (job .pack .rgb24 (flags .yuv422 true false false) 8 .off).inner = .yuv422
      ∧ (job .pack .rgb24 (flags .yuv422 true false false) 8 .off).outer = .rgb
      ∧ (job .unpack .yuyv (flags .yuv444 true false false) 8 .off).inner = .yuv422
      ∧ (job .unpack .yuyv (flags .yuv444 true false false) 8 .off).outer = .yuv444
      ∧ (job .pack .rgba32 (flags .yuv444 true false false) 8 .off).inner = .yuv444
      ∧ (job .pack .rgba32 (flags .yuv444 true false false) 8 .off).outer = .rgba
      ∧ (job .unpack .rgb24 (flags .yuv444 true false false) 8 .off).inner = .rgb
      ∧ (job .pack .nv12 (flags .rgba true false false) 8 .off).inner = .rgba
      ∧ (job .pack .nv12 (flags .rgba true false false) 8 .off).outer = .yuv420
      ∧ (job .pack .yuyv (flags .yuv444 true false false) 8 .off).outer = .yuv422
      ∧ (job .pack .yuyv (flags .yuv422 true false false) 8 .off).w % 2 = 0
      ∧ (flags .yuv422 true false false).c709 = false := by decide +kernel

theorem witness_CorrectionComesFirst :
    (job .pack .yuyv (flags .yuv422 true true false) 8 .off).inner.isYuv = true
      ∧ (job .pack .yuyv (flags .yuv422 true true false) 8 .off).inner ≠ .yuv420
      ∧ (job .pack .yuyv (flags .rgb true true false) 8 .off).inner.isYuv = false := by decide +kernel

/-- Rows of samples 0, 1, 254 and 255. -/
def edgeRows : Rows := ⟨[0, 1, 254, 255], [0, 255, 1, 254], [255, 0, 254, 1]⟩

theorem witness_OffModeExitTruncates : (job .pack .nv12 (flags .rgb false false false) 8 .off).mode = .off
    ∧ RowsInRange (job .pack .nv12 (flags .rgb false false false) 8 .off).dw edgeRows
    ∧ (job .pack .nv12 (flags .rgb false false false) 8 .off).outer = .yuv420
    ∧ (job .pack .yuyv (flags .rgb false false false) 8 .off).outer.halfChroma = true
    ∧ (job .pack .rgb24 (flags .rgb false false false) 8 .off).outer.halfChroma = false := by
  refine ⟨rfl, ?_, by decide +kernel, by decide +kernel, by decide +kernel⟩
  unfold RowsInRange
  decide +kernel

/-- One request for each clause of `OffModeAlphaPath`, all of four pixels. -/
theorem witness_OffModeAlphaPath :
    (let j := job .unpack .rgb24 (flags .rgba false false true) 8 .off; j.alphaOut && !j.alphaIn && decide (3 < j.w)) = true
      ∧ (let j := job .pack .rgba32 (flags .rgb false false true) 8 .off; j.alphaOut && !j.alphaIn) = true
      ∧ (let j := job .pack .rgba32 (flags .rgba false false false) 16 .off; j.alphaOut && j.alphaIn) = true
      ∧ (let j := job .pack .bgra64 (flags .rgba false false true) 8 .off; j.alphaOut && j.alphaIn) = true
      ∧ (let j := job .unpack .rgba64 (flags .rgba false false true) 8 .off; j.alphaOut && j.alphaIn) = true := by
  decide +kernel

/-- The last chroma sample of a 4:2:2 row of four pixels takes the row's last draw but one (R114 item 4), and the alpha of an
RGBA row the fourth draw of its pixel. -/
theorem witness_RowSamplesTakeDrawsInOrder :
    (let j := job .pack .yuyv (flags .yuv422 false false false) 16 .seeded
     let b : Rows := ⟨[0xFF, 0xFF, 0xFF, 0xFF], [0xC0, 0xC0], [0xC0, 0xC0]⟩
     let o := exitRow Act.default j 0 b [] ⟨1, 0⟩
     decide (o.2 = ⟨seededNext^[8] 1, 0⟩ ∧ j.outer.halfChroma = true
       ∧ nth o.1.c2 1 = (narrow 0xC0 16 8 (seededValue (seededNext^[7] 1) 8)).toNat)) = true
    ∧ (let j := job .pack .rgba32 (flags .rgba false false false) 16 .seeded
       let o := exitRow Act.default j 0 ⟨[1, 2, 3, 4], [1, 2, 3, 4], [1, 2, 3, 4]⟩ [0xC0, 0xC0, 0xC0, 0xC0] ⟨1, 0⟩
       decide (o.2 = ⟨seededNext^[16] 1, 0⟩ ∧ j.alphaOut = true ∧ j.alphaIn = true
         ∧ nth o.1.a 1 = (narrow 0xC0 16 8 (seededValue (seededNext^[8] 1) 8)).toNat)) = true
    ∧ (job .pack .nv12 (flags .rgb false false false) 16 .free).outer = .yuv420 := by decide +kernel

/-- Registers with a flipped 4:2:0 target, a negative pitch, and tags out of slot order. -/
def flipped : ReqRegs :=
  { regsOf 0x2112 4 4 4 (0, 3, 1, 2) 2 with planePitch := #v[0, 0xFFFFFF00, 0x10, 0x20], extPitch := #v[0x10, 0xFFFFFFF0, 0] }

/-- Luma in slot 2, V in slot 1 with a pitch of -256; external row 1 of 4 from the bottom; the chroma row of row 3, the last
one, at the base. -/
theorem witness_AddressesFollowLatchedRegisters : ∃ j, prepare State.reset.cmt .pack .nv12 (reqFields 0x2112) flipped = .ok j
    ∧ (decide (planeAddr j .y 3 1 = 0x3000 + 3 * 0x10 + 1) && decide (planeAddr j .v 2 1 = 0x2000 - 2 * 0x100 + 1)
      && decide (extRow j 0 1 = 0x8000 + 2 * 0x10) && decide (chromaRow j 1 3 = 0x9000)
      && decide (chromaRow j 1 1 = 0x9000 - 0x10)) = true :=
  job_of_check (s := { State.reset with cur := flipped }) (by decide +kernel)

theorem witness_OutputSamplesInRange_Fill_EqualStructures :
    (∃ j, prepare State.reset.cmt .pack .uyvy (reqFields 0x102) (regsOf 0x102 4 1 6 yuv 2) = .ok j
      ∧ ((packOutput (running (regsOf 0x102 4 1 6 yuv 2) [] 0) j 0).isSome && decide (j.fam = j.kind)
        && decide (j.w < j.fw)) = true)
    ∧ (∃ j, prepare State.reset.cmt .pack .nv12 (reqFields 0x112) (regsOf 0x112 4 2 6 yuv 2) = .ok j
      ∧ ((packOutput (running (regsOf 0x112 4 2 6 yuv 2) [] 0) j 0).isSome && decide (j.kind = .yuv420)) = true)
    ∧ (∃ j, prepare State.reset.cmt .pack .rgba32 (reqFields 0xC107) (regsOf 0xC107 4 2 6 rgba 2) = .ok j
      ∧ ((packOutput (running (regsOf 0xC107 4 2 6 rgba 2) [] 0) j 0).isSome && decide (j.kind = .rgba)) = true)
    ∧ (∃ j, prepare State.reset.cmt .unpack .yuyv (reqFields 0x181) (regsOf 0x181 4 1 0 yuv 2) = .ok j
      ∧ (decide (j.fam = j.kind) && decide (j.dext ≤ j.s)) = true)
    ∧ Arrays.inRange ⟨[255], [0], [0], []⟩ 8 := by
  refine ⟨job_of_check (s := running (regsOf 0x102 4 1 6 yuv 2) [] 0) (by decide +kernel),
    job_of_check (s := running (regsOf 0x112 4 2 6 yuv 2) [] 0) (by decide +kernel),
    job_of_check (s := running (regsOf 0xC107 4 2 6 rgba 2) [] 0) (by decide +kernel),
    job_of_check (s := running (regsOf 0x181 4 1 0 yuv 2) [] 0) (by decide +kernel), ?_⟩
  unfold Arrays.inRange
  decide +kernel

theorem witness_DownsamplingAfterUpsampling : ([0, 100] : List Int).length = 2 ∧ crsDown (crsUp [0, 100] 2) 2 = [25, 100]
    ∧ |(11 : Int) - 10| ≤ 1 := by decide +kernel

theorem witness_narrowing : (1 : Nat) ≤ 8 ∧ 8 < 13 ∧ 15 < 2 ^ (13 - 8 - 1) ∧ (0 : Int) ≤ 255 ∧ (255 : Int) < 2 ^ 8
    ∧ narrow (sat 13 (-1)) 13 8 15 = 0 ∧ snarrow 9000 13 8 0 = 255 := by decide +kernel

theorem witness_DrawsStayInDeclaredRange : (1 : Nat) ≤ 1 ∧ 2 ≤ 33 ∧ draw .seeded 8 ⟨1, 0⟩ = (30, ⟨0x3C88596C, 0⟩)
    ∧ draw .seeded 1 ⟨1, 0⟩ = (0, ⟨1, 0⟩) := by decide +kernel

theorem witness_ByteSwapReversesBytes : 0x12345678 < 2 ^ 32 ∧ bswap32 0x12345678 = 0x78563412 ∧ 3 < 4 := by decide +kernel

theorem witness_memory : Memory.wf [] = true ∧ 0 ≤ (⟨0xFFFFFFFC, 4, 0x04030201⟩ : Wr).addr
    ∧ memRead State.reset.platform (storeBytes [] (⟨0xFFFFFFFC, 4, 0x04030201⟩ : Wr).bytes) 0xFFFFFFFC 4 = some 0x04030201
    ∧ memRead State.reset.platform [] 0xFFFFFFFD 4 = none ∧ memRead State.reset.platform [] (-1) 1 = none := by
  decide +kernel

end Sys2Proof.Tests
end

section
/-!
PROOFS. The request word and its parts: building and viewing undo each other (30_encoding.md R61, R69).
-/

namespace Sys2Proof.Machine

open Laws (bitVal_lt tag_pos_lt dirBit_lt familyCode_lt ofTag_tag ofCode_code reqWord_toNat)

/-! ### The request word and its view -/

theorem bitVal_bitAt (w : Word) (i : Nat) : bitVal (bitAt w i) = w.toNat / 2 ^ i % 2 := by
  have h := Nat.mod_two_eq_zero_or_one (w.toNat / 2 ^ i)
  rcases h with h | h <;> simp [bitVal, bitAt, slice, h]

theorem bitAt_eq_getLsbD (w : Word) (i : Nat) : bitAt w i = w.getLsbD i := by
  simp [bitAt, slice, BitVec.getLsbD, Nat.testBit_eq_decide_div_mod_eq]

/-- A bit of a word whose value there is the bit of a flag. -/
theorem bitAt_of_slice {w : Word} {i : Nat} {b : Bool} (h : slice w i 1 = bitVal b) : bitAt w i = b := by
  cases b <;> simp [bitAt, h, bitVal]

theorem code_ofCode {n : Nat} (h : n < 4) : (Family.ofCode n).code = n := by
  match n, h with
  | 0, _ | 1, _ | 2, _ | 3, _ => rfl

theorem tag_of_ofTag {n : Nat} {f : Fmt} (h : Fmt.ofTag n = some f) : f.tag = n := by
  unfold Fmt.ofTag at h
  split at h <;> cases h <;> rfl

theorem bit_reqDir (w : Word) : (reqDir w).bit = bitVal (bitAt w 7) := by
  unfold reqDir
  cases bitAt w 7 <;> rfl

/-- The fields of a word that `reqWord` builds are the ones it was built from (R61). -/
theorem reqFields_reqWord (d : Dir) (f : Fmt) (q : ReqFields) : reqFields (reqWord d f q) = q := by
  have h1 := tag_pos_lt f
  have h2 := dirBit_lt d
  have h3 := q.cs.isLt
  have h4 := q.pdepth.isLt
  have h5 := familyCode_lt q.pfam
  have h6 := bitVal_lt q.ups
  have h7 := bitVal_lt q.c709
  have h8 := bitVal_lt q.vflip
  have h9 := bitVal_lt q.psigned
  have h10 := bitVal_lt q.acomp
  have hw := reqWord_toNat d f q
  have hcs : slice (reqWord d f q) 8 3 = q.cs.toNat := by simp only [slice]; omega
  have hpd : slice (reqWord d f q) 16 3 = q.pdepth.toNat := by simp only [slice]; omega
  have hpf : slice (reqWord d f q) 14 2 = q.pfam.code := by simp only [slice]; omega
  have hups : bitAt (reqWord d f q) 11 = q.ups := bitAt_of_slice (by simp only [slice]; omega)
  have hc709 : bitAt (reqWord d f q) 12 = q.c709 := bitAt_of_slice (by simp only [slice]; omega)
  have hvf : bitAt (reqWord d f q) 13 = q.vflip := bitAt_of_slice (by simp only [slice]; omega)
  have hps : bitAt (reqWord d f q) 19 = q.psigned := bitAt_of_slice (by simp only [slice]; omega)
  have hac : bitAt (reqWord d f q) 20 = q.acomp := bitAt_of_slice (by simp only [slice]; omega)
  simp [reqFields, hcs, hpd, hpf, hups, hc709, hvf, hps, hac, ofCode_code]

/-- The direction, the tag and the reserved bits of a word that `reqWord` builds (R61, R69). -/
theorem head_reqWord (d : Dir) (f : Fmt) (q : ReqFields) :
    reqDir (reqWord d f q) = d ∧ slice (reqWord d f q) 0 6 = f.tag ∧ reqReservedZero (reqWord d f q) = true := by
  obtain ⟨hlow, hhigh⟩ := Laws.slice_reqWord d f q
  have ht := tag_pos_lt f
  have hd := dirBit_lt d
  have h0 : slice (reqWord d f q) 0 6 = f.tag := by simp only [slice] at hlow ⊢; omega
  have h6 : bitAt (reqWord d f q) 6 = false := bitAt_of_slice (by simp only [slice, bitVal] at hlow ⊢; simp; omega)
  have h7 : slice (reqWord d f q) 7 1 = d.bit := by simp only [slice] at hlow ⊢; omega
  refine ⟨?_, h0, by simp [reqReservedZero, h6, hhigh]⟩
  cases d <;> simp [reqDir, bitAt, h7, Dir.bit]

/-- Viewing a built word gives its parts back. -/
theorem reqView_reqWord (d : Dir) (f : Fmt) (q : ReqFields) : reqView (reqWord d f q) = some (d, f, q) := by
  obtain ⟨hd, ht, hr⟩ := head_reqWord d f q
  simp [reqView, hr, ht, ofTag_tag, hd, reqFields_reqWord]

/-- A word that names a request is the word built from its parts: a request word has no bit without a meaning (R69). -/
theorem reqWord_of_reqView {w : Word} {d : Dir} {f : Fmt} {q : ReqFields} (h : reqView w = some (d, f, q)) :
    reqWord d f q = w := by
  simp only [reqView, reqReservedZero, Option.ite_none_right_eq_some, Bool.and_eq_true, Bool.not_eq_true',
    decide_eq_true_eq, Option.map_eq_some_iff, Prod.mk.injEq] at h
  obtain ⟨⟨h6, h21⟩, f', hf, rfl, rfl, rfl⟩ := h
  have h6 : w.toNat / 2 ^ 6 % 2 = 0 := by rw [← bitVal_bitAt, h6]; rfl
  have htag := tag_of_ofTag hf
  have hpf : (Family.ofCode (slice w 14 2)).code = slice w 14 2 := code_ofCode (Nat.mod_lt _ (by decide))
  have hlt := w.isLt
  apply BitVec.eq_of_toNat_eq
  rw [reqWord_toNat]
  simp only [reqFields, bit_reqDir, bitVal_bitAt, hpf, htag]
  simp only [slice, BitVec.toNat_ofNat, Nat.mod_mod] at h21 ⊢
  omega

end Sys2Proof.Machine
end

section
/-!
PROOFS. Valid requests, and what the engine's step on any of the 44 requests can do (46_row_driver.md R191 to R193).
-/

namespace Sys2Proof.Machine

open Laws (ofTag_tag)

/-! ### Valid requests -/

/-- What a valid request has passed: its tag is a format, it is not the unpacking of a 4:2:0 layout, and its geometry is
good (R191, R192, R213). -/
theorem validate_eq_none {c : ReqRegs} (h : validate c = none) :
    ∃ f, Fmt.ofTag (slice c.reqOp 0 6) = some f ∧ ¬ (reqDir c.reqOp = .unpack ∧ (f = .nv12 ∨ f = .yv12))
      ∧ geometryBad c (reqDir c.reqOp) f (reqFields c.reqOp).pfam = false := by
  simp only [validate, ite_eq_iff, reduceCtorEq, and_false, false_or] at h
  obtain ⟨-, -, h⟩ := h
  split at h
  · cases h
  · rename_i f hf
    simp only [ite_eq_iff, reduceCtorEq, and_false, false_or] at h
    obtain ⟨-, -, -, -, hcombo, hgeo, -⟩ := h
    exact ⟨f, hf, by simpa using hcombo, by simpa using hgeo⟩

/-- The external row of a format in whole periods, and an image row no longer than the frame (R192). -/
structure Job.Aligned (j : Job) : Prop where
  width : j.w % fmtPeriod j.fmt = 0
  frame : j.dir = .pack → j.fw % fmtPeriod j.fmt = 0

/-- A prepared request is served by the table and its rows are whole periods (R191, R192). -/
theorem prepare_served_aligned {t : Cmt} {d : Dir} {f : Fmt} {q : ReqFields} {c : ReqRegs} {j : Job}
    (h : prepare t d f q c = .ok j) : (d = .unpack → f ≠ .nv12 ∧ f ≠ .yv12) ∧ j.Aligned := by
  obtain ⟨hv, hd, hf, -, hc, -⟩ := prepare_eq_ok h
  obtain ⟨hdir, htag, -⟩ := head_reqWord d f q
  obtain ⟨f', hf', hcombo, hgeo⟩ := validate_eq_none hv
  have hff : f = f' := Option.some.inj ((ofTag_tag f).symm.trans (htag ▸ hf'))
  subst hff
  rw [hdir] at hcombo hgeo
  rw [reqFields_reqWord] at hgeo
  simp only [geometryBad, Bool.or_eq_false_iff, Bool.and_eq_false_imp, decide_eq_true_eq, decide_eq_false_iff_not,
    not_not] at hgeo
  obtain ⟨⟨⟨hw, -⟩, hfw⟩, -⟩ := hgeo
  have hperiod : fmtPeriod f ∣ widthMultiple q.pfam f := by
    cases q.pfam with
    | yuv422 => exact Nat.dvd_lcm_left _ _
    | yuv444 | rgb | rgba => exact Nat.dvd_refl _
  refine ⟨fun hu => by simpa using fun hn => hcombo ⟨hu, hn⟩, ?_, fun hp => ?_⟩
  · rw [hf, Job.w, hc]; exact Nat.mod_eq_zero_of_dvd (hperiod.trans (Nat.dvd_of_mod_eq_zero hw))
  · rw [hf, Job.fw, hc]; exact hfw (hd ▸ hp)

/-- The rectangle and the mode of a prepared request are those of the registers it was made from (R15, R17). -/
theorem prepare_operands {t : Cmt} {d : Dir} {f : Fmt} {q : ReqFields} {c : ReqRegs} {j : Job}
    (h : prepare t d f q c = .ok j) : j.w = roiW c ∧ j.h = roiH c ∧ decodeMode c.ditherCtl = some j.mode := by
  obtain ⟨-, -, -, -, hc, -, hm, -⟩ := prepare_eq_ok h
  exact ⟨by rw [Job.w, hc]; rfl, by rw [Job.h, hc]; rfl, hm⟩

/-- Preparing the latched registers is preparing the request that the latched word names (R200). -/
theorem prepareLatched_of_reqView {t : Cmt} {c : ReqRegs} {d : Dir} {f : Fmt} {q : ReqFields} {j : Job}
    (hv : reqView c.reqOp = some (d, f, q)) (h : prepare t d f q c = .ok j) : prepareLatched t c = .ok j := by
  obtain ⟨hval, -⟩ := prepare_eq_ok h
  rw [reqWord_of_reqView hv] at hval
  simp [prepareLatched, hval, hv, h]

/-- Registers that prepare to a request have passed validation. -/
theorem validate_of_prepareLatched {t : Cmt} {c : ReqRegs} {j : Job} (h : prepareLatched t c = .ok j) :
    validate c = none := by
  unfold prepareLatched at h
  split at h
  · cases h
  · assumption

/-- The write footprint of the running request is that of the request its latched word names. -/
theorem runningWrites_of_prepare {s : State} {d : Dir} {f : Fmt} {q : ReqFields} {j : Job} (hb : s.busy = true)
    (hv : reqView s.cur.reqOp = some (d, f, q)) (h : prepare s.cmt d f q s.cur = .ok j) :
    runningWrites s = writeFootprint j := by
  simp [runningWrites, hb, prepareLatched_of_reqView hv h]

theorem runningWrites_of_idle {s : State} (hb : s.busy = false) : runningWrites s = [] := by simp [runningWrites, hb]

/-! ### The step of a request -/

/-- A request that the table serves runs the row step of its direction and format (R193, R200). -/
theorem exec_served {d : Dir} {f : Fmt} (h : d = .unpack → f ≠ .nv12 ∧ f ≠ .yv12) (q : ReqFields) (s : State) :
    exec (reqInstr q d f) s = requestStep (rowOf d f) d f q s := by
  cases d with
  | pack => cases f <;> rfl
  | unpack =>
    cases f with
    | nv12 | yv12 => simp at h
    | _ => rfl

theorem exec_noEntry {f : Fmt} (hf : f = .nv12 ∨ f = .yv12) (q : ReqFields) (s : State) :
    exec (reqInstr q .unpack f) s = noEntryStep .unpack f q s := by
  rcases hf with rfl | rfl <;> rfl

/-- What the engine's step on a request can do, for all 44 requests (R193, R213): nothing, a configuration error, a row,
or the end of the request. -/
theorem exec_reqInstr_cases (d : Dir) (f : Fmt) (q : ReqFields) (s : State) :
    (s.busy = false ∧ exec (reqInstr q d f) s = .next s)
      ∨ (s.busy = true ∧ ∃ e, exec (reqInstr q d f) s = .next (takeConfigError e s))
      ∨ (s.busy = true ∧ ∃ j, prepare s.cmt d f q s.cur = .ok j ∧
          ((s.row.toNat < j.h ∧ exec (reqInstr q d f) s = .next (rowStep (rowOf d f) j s))
            ∨ (j.h ≤ s.row.toNat ∧ exec (reqInstr q d f) s = .next (settle j (complete s))))) := by
  by_cases hentry : d = .unpack ∧ (f = .nv12 ∨ f = .yv12)
  · obtain ⟨rfl, hf⟩ := hentry
    rw [exec_noEntry hf]
    rcases noEntryStep_cases .unpack f q s with h | ⟨hb, h⟩
    · exact .inl h
    · exact .inr (.inl ⟨hb, _, h⟩)
  · rw [exec_served (by simpa using hentry)]
    rcases requestStep_cases (rowOf d f) d f q s with h | ⟨hb, e, -, h⟩ | h
    · exact .inl h
    · exact .inr (.inl ⟨hb, e, h⟩)
    · exact .inr (.inr h)

end Sys2Proof.Machine
end

section
/-!
PROOFS. The bytes a row's writes name: the placement rules fill the external row, the stores fill the planar rows (R130, R131, R199).
-/

namespace Sys2Proof.Machine

/-! ### Runs of addresses -/

@[simp] theorem covers_nil (a : Int) : ¬ Covers [] a := by simp [Covers]

@[simp] theorem covers_cons (sp : Span) (ss : List Span) (a : Int) :
    Covers (sp :: ss) a ↔ (sp.start ≤ a ∧ a < sp.start + sp.len) ∨ Covers ss a := by
  simp [Covers]

/-- Spans cover the bytes that any part of them covers. -/
theorem covers_flatMap {α : Type} (l : List α) (g : α → List Span) (a : Int) :
    Covers (l.flatMap g) a ↔ ∃ x ∈ l, Covers (g x) a := by
  simp only [Covers, List.mem_flatMap]
  constructor
  · rintro ⟨sp, ⟨x, hx, hsp⟩, h⟩; exact ⟨x, hx, sp, hsp, h⟩
  · rintro ⟨x, hx, sp, hsp, h⟩; exact ⟨sp, ⟨x, hx, hsp⟩, h⟩

/-- A row inside the rectangle writes inside the request's write footprint (R199). -/
theorem covers_writeFootprint_of_rowWrites {j : Job} {r : Nat} (hr : r < j.h) {a : Int} (h : Covers (rowWrites j r) a) :
    Covers (writeFootprint j) a :=
  (covers_flatMap _ _ _).2 ⟨r, List.mem_range.2 hr, h⟩

/-- Blocks of `s` bytes one after the other fill a run of `s * n` bytes. -/
theorem exists_tile_iff (s n : Nat) (e a : Int) :
    (∃ k < n, e + s * k ≤ a ∧ a < e + s * k + s) ↔ e ≤ a ∧ a < e + s * n := by
  induction n with
  | zero => simp
  | succ n ih =>
    have hs : (s : Int) * ((n + 1 : Nat) : Int) = s * n + s := by push_cast; ring
    have hpos : 0 ≤ (s : Int) * n := by positivity
    rw [hs]
    constructor
    · rintro ⟨k, hk, h⟩
      rcases Nat.lt_succ_iff_lt_or_eq.1 hk with hk | rfl
      · have := ih.1 ⟨k, hk, h⟩; omega
      · omega
    · intro h
      by_cases ha : a < e + s * n
      · obtain ⟨k, hk, h⟩ := ih.2 ⟨h.1, ha⟩; exact ⟨k, by omega, h⟩
      · exact ⟨n, by omega, by omega, by omega⟩

/-! ### The bytes that writes name -/

/-- Some write of the list names the byte. -/
def WritesTo (ws : List Wr) (a : Int) : Prop := ∃ w ∈ ws, w.addr ≤ a ∧ a < w.addr + w.n

/-- The bytes of writes lie exactly where a write names them (R41). -/
theorem exists_mem_bytes_iff (ws : List Wr) (a : Int) : (∃ x ∈ ws.flatMap Wr.bytes, x.1 = a) ↔ WritesTo ws a := by
  simp only [WritesTo, List.mem_flatMap]
  constructor
  · rintro ⟨x, ⟨w, hw, hx⟩, rfl⟩
    exact ⟨w, hw, mem_bytes hx⟩
  · rintro ⟨w, hw, h1, h2⟩
    exact ⟨_, ⟨w, hw, mem_tabulate.2 ⟨(a - w.addr).toNat, by omega, rfl⟩⟩, by simp only; omega⟩

@[simp] theorem writesTo_nil (a : Int) : ¬ WritesTo [] a := by simp [WritesTo]

@[simp] theorem writesTo_cons (w : Wr) (ws : List Wr) (a : Int) :
    WritesTo (w :: ws) a ↔ (w.addr ≤ a ∧ a < w.addr + w.n) ∨ WritesTo ws a := by
  simp [WritesTo]

@[simp] theorem writesTo_append (ws ws' : List Wr) (a : Int) :
    WritesTo (ws ++ ws') a ↔ WritesTo ws a ∨ WritesTo ws' a := by
  simp [WritesTo, or_and_right, exists_or]

theorem writesTo_flatMap_range (n : Nat) (g : Nat → List Wr) (a : Int) :
    WritesTo ((List.range n).flatMap g) a ↔ ∃ k < n, WritesTo (g k) a := by
  simp only [WritesTo, List.mem_flatMap, List.mem_range]
  constructor
  · rintro ⟨w, ⟨k, hk, hw⟩, h⟩; exact ⟨k, hk, w, hw, h⟩
  · rintro ⟨k, hk, w, hw, h⟩; exact ⟨w, ⟨k, hk, hw⟩, h⟩

theorem writesTo_tabulate (n : Nat) (f : Nat → Wr) (a : Int) :
    WritesTo (tabulate n f) a ↔ ∃ k < n, (f k).addr ≤ a ∧ a < (f k).addr + (f k).n := by
  simp [WritesTo, tabulate]

/-- Groups of writes that each fill their block of `s` bytes fill the run of the blocks. -/
theorem writesTo_blocks {n : Nat} {g : Nat → List Wr} {a : Int} (s : Nat) (e : Int)
    (hg : ∀ k, WritesTo (g k) a ↔ e + s * k ≤ a ∧ a < e + s * k + s) :
    WritesTo ((List.range n).flatMap g) a ↔ e ≤ a ∧ a < e + s * n := by
  simp only [writesTo_flatMap_range, hg, exists_tile_iff]

/-- Single writes of `s` bytes one after the other fill their run. -/
theorem writesTo_tiles {n : Nat} {f : Nat → Wr} {a : Int} (s : Nat) (e : Int)
    (hf : ∀ k, (f k).addr = e + s * k ∧ (f k).n = s) : WritesTo (tabulate n f) a ↔ e ≤ a ∧ a < e + s * n := by
  simp only [writesTo_tabulate, hf, exists_tile_iff]

/-! ### Placement fills the external row -/

/-- The layouts whose rows lie in buffer 0 alone (R131). -/
def singleBuffer : Fmt → Bool
  | .avid28 | .nv12 | .yv12 => false
  | _ => true

theorem extSpans_of_singleBuffer {j : Job} (h : singleBuffer j.fmt = true) (n r : Nat) :
    extSpans j n r = [⟨extRow j 0 r, rowBytes n j.fmt⟩] := by
  unfold extSpans
  split <;> simp_all [singleBuffer]

/-- The placement rule of a layout in buffer 0 fills the run of the external row (R134 to R184). -/
theorem writesTo_placeOf_run {f : Fmt} (h : singleBuffer f = true) (j : Job) (r : Nat) (o : Arrays) (a : Int)
    (hp : j.fw % fmtPeriod f = 0) :
    WritesTo (placeOf f j r o) a ↔ extRow j 0 r ≤ a ∧ a < extRow j 0 r + rowBytes j.fw f := by
  cases f with
  | avid28 | nv12 | yv12 => cases h
  | rg30 | ar10 | ab10 | r210 | dpx0 =>
    refine (writesTo_tiles 4 (extRow j 0 r) fun k => ⟨rfl, rfl⟩).trans ?_
    simp [rowBytes]
  | rgb24 =>
    refine (writesTo_blocks 3 (extRow j 0 r) fun k => by simp; omega).trans ?_
    simp [rowBytes]
  | rgb32 | rgba32 =>
    refine (writesTo_blocks 4 (extRow j 0 r) fun k => by simp; omega).trans ?_
    simp [rowBytes]
  | rgb48 =>
    refine (writesTo_blocks 6 (extRow j 0 r) fun k => by simp; omega).trans ?_
    simp [rowBytes]
  | rgba64 | bgra64 =>
    refine (writesTo_blocks 8 (extRow j 0 r) fun k => by simp; omega).trans ?_
    simp [rowBytes]
  | yuyv | uyvy =>
    refine (writesTo_blocks 4 (extRow j 0 r) fun k => by simp; omega).trans ?_
    simp only [rowBytes, fmtPeriod] at hp ⊢
    omega
  | yu64 | avid214 | avid106 =>
    refine (writesTo_blocks 8 (extRow j 0 r) fun k => by simp; omega).trans ?_
    simp only [rowBytes, fmtPeriod] at hp ⊢
    omega
  | v210 =>
    refine (writesTo_blocks 16 (extRow j 0 r) fun k => by simp; omega).trans ?_
    simp only [rowBytes, fmtPeriod] at hp ⊢
    omega
  | rgb8p =>
    refine (writesTo_blocks 48 (extRow j 0 r) fun g => ?_).trans ?_
    · simp only [writesTo_flatMap_range, writesTo_cons, writesTo_nil, or_false]
      exact ⟨fun ⟨i, hi, h⟩ => by omega, fun h => ⟨((a - (extRow j 0 r + 48 * g)) / 2 % 8).toNat, by omega, by omega⟩⟩
    · simp only [rowBytes, fmtPeriod] at hp ⊢
      omega
  | rgba8p =>
    refine (writesTo_blocks 64 (extRow j 0 r) fun g => ?_).trans ?_
    · simp only [writesTo_flatMap_range, writesTo_cons, writesTo_nil, or_false]
      exact ⟨fun ⟨i, hi, h⟩ => by omega, fun h => ⟨((a - (extRow j 0 r + 64 * g)) / 2 % 8).toNat, by omega, by omega⟩⟩
    · simp only [rowBytes, fmtPeriod] at hp ⊢
      omega

theorem writesTo_placeNv12 (j : Job) (r : Nat) (o : Arrays) (a : Int) (hp : j.fw % 2 = 0) :
    WritesTo (placeNv12 j r o) a ↔ (extRow j 0 r ≤ a ∧ a < extRow j 0 r + j.fw)
      ∨ (r % 2 = 1 ∧ chromaRow j 1 r ≤ a ∧ a < chromaRow j 1 r + j.fw) := by
  have hluma := writesTo_tiles (n := j.fw) (f := fun x : Nat => ⟨extRow j 0 r + x, 1, nth o.c0 x⟩) (a := a) 1 (extRow j 0 r)
    fun k => by simp
  have hchroma := writesTo_blocks (n := j.fw / 2) (a := a) (g := fun k : Nat =>
    [⟨chromaRow j 1 r + 2 * k, 1, nth o.c1 k⟩, ⟨chromaRow j 1 r + 2 * k + 1, 1, nth o.c2 k⟩]) 2 (chromaRow j 1 r)
    fun k => by simp; omega
  have heven : (2 : Int) * (j.fw / 2) = j.fw := by omega
  by_cases hr : r % 2 = 1
  · simp [placeNv12, vdecKeeps, hr, hluma, hchroma, heven]
  · simp [placeNv12, vdecKeeps, hr, hluma]

theorem writesTo_placeYv12 (j : Job) (r : Nat) (o : Arrays) (a : Int) :
    WritesTo (placeYv12 j r o) a ↔ (extRow j 0 r ≤ a ∧ a < extRow j 0 r + j.fw)
      ∨ (r % 2 = 1 ∧ ((chromaRow j 1 r ≤ a ∧ a < chromaRow j 1 r + (j.fw / 2 : Nat))
        ∨ (chromaRow j 2 r ≤ a ∧ a < chromaRow j 2 r + (j.fw / 2 : Nat)))) := by
  have hluma := writesTo_tiles (n := j.fw) (f := fun x : Nat => ⟨extRow j 0 r + x, 1, nth o.c0 x⟩) (a := a) 1 (extRow j 0 r)
    fun k => by simp
  have hv := exists_tile_iff 1 (j.fw / 2) (chromaRow j 1 r) a
  have hu := exists_tile_iff 1 (j.fw / 2) (chromaRow j 2 r) a
  simp only [Nat.cast_one, one_mul] at hv hu
  by_cases hr : r % 2 = 1
  · simp only [placeYv12, writesTo_append, hluma, vdecKeeps, hr, writesTo_flatMap_range, writesTo_cons, writesTo_nil,
      decide_true, if_true, true_and, or_false, Nat.cast_one, one_mul, and_or_left, exists_or, hv, hu]
  · simp [placeYv12, vdecKeeps, hr, hluma]

theorem writesTo_placeAvid28 (j : Job) (r : Nat) (o : Arrays) (a : Int) (hp : j.fw % 2 = 0) :
    WritesTo (placeAvid28 j r o) a ↔ (extRow j 0 r ≤ a ∧ a < extRow j 0 r + (j.fw / 2 : Nat))
      ∨ (extRow j 1 r ≤ a ∧ a < extRow j 1 r + 2 * j.fw) := by
  have hlow := exists_tile_iff 1 (j.fw / 2) (extRow j 0 r) a
  have hhigh := exists_tile_iff 4 (j.fw / 2) (extRow j 1 r) a
  have hblock : ∀ k : Nat, ((extRow j 1 r + 4 * k + 0 ≤ a ∧ a < extRow j 1 r + 4 * k + 0 + 1)
      ∨ (extRow j 1 r + 4 * k + 1 ≤ a ∧ a < extRow j 1 r + 4 * k + 1 + 1)
      ∨ (extRow j 1 r + 4 * k + 2 ≤ a ∧ a < extRow j 1 r + 4 * k + 2 + 1)
      ∨ (extRow j 1 r + 4 * k + 3 ≤ a ∧ a < extRow j 1 r + 4 * k + 3 + 1))
      ↔ (extRow j 1 r + 4 * k ≤ a ∧ a < extRow j 1 r + 4 * k + 4) := fun k => by omega
  simp only [Nat.cast_one, one_mul, Nat.cast_ofNat] at hlow hhigh
  simp only [placeAvid28, writesTo_flatMap_range, writesTo_cons, writesTo_nil, or_false, Nat.cast_one, hblock, and_or_left,
    exists_or, hlow, hhigh]
  omega

/-- The placement rule of every layout fills exactly the bytes of the external row, where the row is of whole periods
(R130, R131). -/
theorem writesTo_placeOf (j : Job) (r : Nat) (o : Arrays) (a : Int) (hp : j.fw % fmtPeriod j.fmt = 0) :
    WritesTo (placeOf j.fmt j r o) a ↔ Covers (extSpans j j.fw r) a := by
  by_cases hs : singleBuffer j.fmt = true
  · simp [writesTo_placeOf_run hs j r o a hp, extSpans_of_singleBuffer hs]
  · generalize hf : j.fmt = f at hs hp ⊢
    cases f with
    | nv12 =>
      rw [show placeOf .nv12 = placeNv12 from rfl, writesTo_placeNv12 j r o a hp]
      by_cases hr : r % 2 = 1 <;> simp [extSpans, hf, rowBytes, hr]
    | yv12 =>
      rw [show placeOf .yv12 = placeYv12 from rfl, writesTo_placeYv12]
      by_cases hr : r % 2 = 1 <;> simp [extSpans, hf, rowBytes, hr]
    | avid28 =>
      rw [show placeOf .avid28 = placeAvid28 from rfl, writesTo_placeAvid28 j r o a hp]
      simp [extSpans, hf, rowBytes]
    | _ => exact absurd rfl hs

/-! ### The stores of a planar row -/

theorem planeAddr_eq (j : Job) (ch : Chan) (r x : Nat) : planeAddr j ch r x = planeAddr j ch r 0 + j.bps * x := by
  simp [planeAddr]; ring

theorem writesTo_storeRow (j : Job) (r : Nat) (ch : Chan) (vs : List Nat) (a : Int) :
    WritesTo (storeRow j r ch vs) a
      ↔ planeAddr j ch r 0 ≤ a ∧ a < planeAddr j ch r 0 + (ncols j.fam j.w ch * j.bps : Nat) := by
  rw [storeRow, writesTo_tiles j.bps (planeAddr j ch r 0) fun k => ⟨planeAddr_eq j ch r k, rfl⟩]
  push_cast
  rw [mul_comm]

/-- The stores of a row fill exactly the planar rows of the family's channels (R195, R199). -/
theorem writesTo_storeRows (j : Job) (r : Nat) (o : Arrays) (a : Int) :
    WritesTo (storeRows j r o) a ↔ Covers (planeSpans j r) a := by
  cases hfam : j.q.pfam <;>
    simp [storeRows, planeSpans, Job.fam, hfam, familyStructure, familyChans, Structure.colours, Structure.isYuv,
      writesTo_storeRow]

end Sys2Proof.Machine
end

section
/-!
PROOFS. The bytes a row reads: every extraction rule reads inside the external row (R130, R131).
-/

namespace Sys2Proof.Machine

/-! ### Reads inside the spans of a row -/

/-- The run of `n` bytes at `a` lies inside one of the spans. -/
def Within (ss : List Span) (a : Int) (n : Nat) : Prop := ∃ sp ∈ ss, sp.start ≤ a ∧ a + n ≤ sp.start + sp.len

theorem covers_of_within {ss : List Span} {a : Int} {n i : Nat} (h : Within ss a n) (hi : i < n) : Covers ss (a + i) := by
  obtain ⟨sp, hsp, h1, h2⟩ := h
  exact ⟨sp, hsp, by omega, by omega⟩

/-- An access is answered where each of its bytes is (R41, R50). -/
theorem accessOk_of_bytes {p : Platform} {a : Int} {n : Nat} (hn : 0 < n)
    (h : ∀ i < n, accessOk p (a + i) 1 = true) : accessOk p a n = true := by
  have hfirst := accessOk_bounds (h 0 hn)
  have hlast := accessOk_bounds (h (n - 1) (by omega))
  refine (accessOk_iff p a n).2 ⟨by omega, by omega, fun reg hreg => ?_⟩
  by_contra hmeet
  simp only [Bool.not_eq_false, Span.meets, Bool.and_eq_true, decide_eq_true_eq] at hmeet
  obtain ⟨⟨⟨-, hlen⟩, hlow⟩, hhigh⟩ := hmeet
  have hbyte := ((accessOk_iff p _ 1).1 (h (max 0 (reg.span.start - a)).toNat (by omega))).2.2 reg hreg
  simp only [Span.meets, Bool.and_eq_false_iff, decide_eq_false_iff_not] at hbyte
  omega

/-- Spans whose every byte is answered answer each access inside them. -/
theorem accessOk_of_within {p : Platform} {ss : List Span} (hok : SpansOk p ss) {a : Int} {n : Nat} (hn : 0 < n)
    (h : Within ss a n) : accessOk p a n = true := by
  obtain ⟨sp, hsp, h1, h2⟩ := h
  refine accessOk_of_bytes hn fun i hi => ?_
  have hb := hok sp hsp (a + i - sp.start).toNat (by omega)
  rwa [show sp.start + ((a + i - sp.start).toNat : Int) = a + i by omega] at hb

theorem memRead_of_within {p : Platform} {ss : List Span} (hok : SpansOk p ss) (m : Memory) {a : Int} {n : Nat}
    (hn : 0 < n) (h : Within ss a n) : memRead p m a n = some (bytesAt m a n) :=
  (memRead_eq_some_iff p m a n _).2 ⟨accessOk_of_within hok hn h, rfl⟩

/-- Memories that agree on answered spans compose the same integers there. -/
theorem bytesAt_of_agree {p : Platform} {ss : List Span} (hok : SpansOk p ss) {m m' : Memory}
    (hm : ∀ a : Nat, Covers ss a → loadByte m' a = loadByte m a) {a : Int} {n : Nat} (hn : 0 < n) (h : Within ss a n) :
    bytesAt m' a n = bytesAt m a n := by
  have ha := (accessOk_bounds (accessOk_of_within hok hn h)).1
  simp only [bytesAt, tabulate]
  congr 1
  refine List.map_congr_left fun i hi => hm _ ?_
  have := covers_of_within h (List.mem_range.1 hi)
  rwa [show ((a.toNat + i : Nat) : Int) = a + i by omega]

/-- The two ways to read give the same inside the spans. -/
def ReadsAgree (ss : List Span) (rd rd' : Int → Nat → Option Nat) : Prop :=
  ∀ a n, 0 < n → Within ss a n → rd a n = rd' a n

/-! ### Extraction reads inside the external row -/

@[congr] theorem tabulate_congr {α : Type} {n : Nat} {f g : Nat → α} (h : ∀ i < n, f i = g i) :
    tabulate n f = tabulate n g :=
  List.map_congr_left fun i hi => h i (List.mem_range.1 hi)

theorem flatMap_range_eq {α : Type} (n : Nat) (f : Nat → List α) :
    (List.range n).flatMap f = (tabulate n f).flatten := by
  simp [tabulate, List.flatMap_def]

/-- The extraction rule of a layout in buffer 0 depends on the reads of its external row alone (R135 to R185). -/
theorem extractOf_congr_run {f : Fmt} (hs : singleBuffer f = true) {rd rd' : Int → Nat → Option Nat} {j : Job} {r : Nat}
    (hp : j.w % fmtPeriod f = 0)
    (h : ∀ (a : Int) (n : Nat), 0 < n → extRow j 0 r ≤ a → a + n ≤ extRow j 0 r + rowBytes j.w f → rd a n = rd' a n) :
    extractOf f rd j r = extractOf f rd' j r := by
  cases f with simp only [rowBytes, fmtPeriod] at hp h
  | avid28 | nv12 | yv12 => cases hs
  | rgb24 => simp +contextual (disch := omega) only [extractOf, extractRgb24, h]
  | rgb32 => simp +contextual (disch := omega) only [extractOf, extractRgb32, h]
  | rgba32 => simp +contextual (disch := omega) only [extractOf, extractRgba32, h]
  | rgb48 => simp +contextual (disch := omega) only [extractOf, extractRgb48, h]
  | rgba64 => simp +contextual (disch := omega) only [extractOf, extractRgba64, h]
  | bgra64 => simp +contextual (disch := omega) only [extractOf, extractBgra64, h]
  | rg30 => simp +contextual (disch := omega) only [extractOf, extractRg30, h]
  | ar10 => simp +contextual (disch := omega) only [extractOf, extractAr10, h]
  | ab10 => simp +contextual (disch := omega) only [extractOf, extractAb10, h]
  | r210 => simp +contextual (disch := omega) only [extractOf, extractR210, h]
  | dpx0 => simp +contextual (disch := omega) only [extractOf, extractDpx0, h]
  | rgb8p => simp +contextual (disch := omega) only [extractOf, extractRgb8p, flatMap_range_eq, h]
  | rgba8p => simp +contextual (disch := omega) only [extractOf, extractRgba8p, flatMap_range_eq, h]
  | yuyv => simp +contextual (disch := omega) only [extractOf, extractYuyv, flatMap_range_eq, h]
  | uyvy => simp +contextual (disch := omega) only [extractOf, extractUyvy, flatMap_range_eq, h]
  | yu64 => simp +contextual (disch := omega) only [extractOf, extractYu64, flatMap_range_eq, h]
  | v210 => simp +contextual (disch := omega) only [extractOf, extractV210, h]
  | avid214 => simp +contextual (disch := omega) only [extractOf, extractAvid214, flatMap_range_eq, h]
  | avid106 => simp +contextual (disch := omega) only [extractOf, extractAvid106, flatMap_range_eq, h]

theorem extractAvid28_congr {rd rd' : Int → Nat → Option Nat} {j : Job} {r : Nat} (hp : j.w % 2 = 0)
    (hlow : ∀ (a : Int) (n : Nat), 0 < n → extRow j 0 r ≤ a → a + n ≤ extRow j 0 r + (j.w / 2 : Nat) → rd a n = rd' a n)
    (hhigh : ∀ (a : Int) (n : Nat), 0 < n → extRow j 1 r ≤ a → a + n ≤ extRow j 1 r + (2 * j.w : Nat) → rd a n = rd' a n) :
    extractAvid28 rd j r = extractAvid28 rd' j r := by
  simp +contextual (disch := omega) only [extractAvid28, hlow, hhigh]

/-- The extraction rule of every layout depends on the reads of its external row alone (R130, R131). -/
theorem extractOf_congr {rd rd' : Int → Nat → Option Nat} {j : Job} {r : Nat} (hp : j.w % fmtPeriod j.fmt = 0)
    (h : ReadsAgree (extSpans j j.w r) rd rd') : extractOf j.fmt rd j r = extractOf j.fmt rd' j r := by
  by_cases hs : singleBuffer j.fmt = true
  · rw [extSpans_of_singleBuffer hs] at h
    exact extractOf_congr_run hs hp fun a n hn h1 h2 => h a n hn ⟨_, List.mem_singleton.2 rfl, h1, h2⟩
  · generalize hf : j.fmt = f at hs hp ⊢
    cases f with
    | nv12 | yv12 => rfl
    | avid28 =>
      simp only [extSpans, hf, rowBytes] at h
      exact extractAvid28_congr hp (fun a n hn h1 h2 => h a n hn ⟨_, List.mem_cons_self, h1, h2⟩)
        fun a n hn h1 h2 => h a n hn ⟨_, List.mem_cons_of_mem _ List.mem_cons_self, h1, h2⟩
    | _ => exact absurd rfl hs

@[simp] theorem allSome_tabulate_some {α : Type} (n : Nat) (f : Nat → α) :
    allSome (tabulate n fun i => some (f i)) = some (tabulate n f) := by
  simp [allSome_eq_some_iff, tabulate]

@[simp] theorem allSome_pairs_some {α : Type} (n : Nat) (f g : Nat → α) :
    allSome ((List.range n).flatMap fun i => [some (f i), some (g i)]) = some ((List.range n).flatMap fun i => [f i, g i]) := by
  simp [allSome_eq_some_iff, List.map_flatMap]

@[simp] theorem allSome_groups_some {α : Type} (n k : Nat) (f : Nat → Nat → α) :
    allSome ((List.range n).flatMap fun i => tabulate k fun l => some (f i l))
      = some ((List.range n).flatMap fun i => tabulate k (f i)) := by
  simp [allSome_eq_some_iff, List.map_flatMap, tabulate, Function.comp_def]

/-- Where every read is answered, the extraction rule of a served layout gives the fields of the row. -/
theorem extractOf_of_answered {f : Fmt} (hf : f ≠ .nv12 ∧ f ≠ .yv12) (v : Int → Nat → Nat) (j : Job) (r : Nat) :
    ∃ x, extractOf f (fun a n => some (v a n)) j r = some x := by
  cases f with
  | nv12 | yv12 => simp at hf
  | _ => simp [extractOf, extractRgb24, extractRgb32, extractRgba32, extractRgb48, extractRgba64, extractBgra64,
      extractRg30, extractAr10, extractAb10, extractR210, extractDpx0, extractRgb8p, extractRgba8p, extractYuyv,
      extractUyvy, extractYu64, extractV210, extractAvid28, extractAvid214, extractAvid106, arrays3, arrays4]

end Sys2Proof.Machine
end

section
/-!
PROOFS. The result of a row: where it is defined, on which bytes it depends, and which bytes its writes name (R194, R195, R235).
-/

namespace Sys2Proof.Machine

/-! ### Planar loads read inside the planar row -/

theorem bps_pos (j : Job) : 0 < j.bps := by unfold Job.bps; split <;> decide

theorem within_planeSpans {j : Job} {ch : Chan} (hch : ch ∈ familyChans j.q.pfam) (r : Nat) {x : Nat}
    (hx : x < ncols j.fam j.w ch) : Within (planeSpans j r) (planeAddr j ch r x) j.bps := by
  refine ⟨_, List.mem_map.2 ⟨ch, hch, rfl⟩, ?_⟩
  have hle : (j.bps : Int) * x + j.bps ≤ ncols j.fam j.w ch * j.bps := by
    have := Nat.mul_le_mul_right j.bps (Nat.succ_le_of_lt hx)
    zify at this
    linarith
  have hpos : 0 ≤ (j.bps : Int) * x := by positivity
  rw [planeAddr_eq j ch r x]
  push_cast
  omega

/-- The sample `LoadPlanar` gives where its bytes are answered (R44). -/
def planarSample (m : Memory) (j : Job) (ch : Chan) (r x : Nat) : Int :=
  if j.q.psigned then sext 16 (bytesAt m (planeAddr j ch r x) j.bps) else bytesAt m (planeAddr j ch r x) j.bps

/-- A planar row of a channel of the family, where its bytes are answered. -/
theorem loadRow_of_spansOk {s : State} {j : Job} {r : Nat} (hok : SpansOk s.platform (planeSpans j r)) {ch : Chan}
    (hch : ch ∈ familyChans j.q.pfam) :
    loadRow s j r ch = some (tabulate (ncols j.fam j.w ch) fun x => planarSample s.mem j ch r x) := by
  rw [← allSome_tabulate_some, loadRow]
  congr 1
  refine tabulate_congr fun x hx => ?_
  simp only [loadPlanar, memRead_of_within hok s.mem (bps_pos j) (within_planeSpans hch r hx), Option.map_some]
  rfl

theorem planarSample_of_agree {p : Platform} {j : Job} {r : Nat} (hok : SpansOk p (planeSpans j r)) {m m' : Memory}
    (hm : ∀ a : Nat, Covers (planeSpans j r) a → loadByte m' a = loadByte m a) {ch : Chan}
    (hch : ch ∈ familyChans j.q.pfam) {x : Nat} (hx : x < ncols j.fam j.w ch) :
    planarSample m' j ch r x = planarSample m j ch r x := by
  simp only [planarSample, bytesAt_of_agree hok hm (bps_pos j) (within_planeSpans hch r hx)]

/-- The planar rows of the family are loaded where each channel's row is. -/
theorem loadRows_of_loadRow {s : State} {j : Job} {r : Nat} {v : Chan → List Int}
    (h : ∀ ch ∈ familyChans j.q.pfam, loadRow s j r ch = some (v ch)) :
    loadRows s j r = some (⟨v j.fam.colours.1, v j.fam.colours.2.1, v j.fam.colours.2.2⟩,
      if j.fam = .rgba then v .a else []) := by
  unfold Job.fam at *
  cases hfam : j.q.pfam <;> simp only [hfam, familyChans, List.forall_mem_cons] at h <;>
    simp [loadRows, Job.fam, hfam, familyStructure, Structure.colours, Structure.isYuv, h]

/-! ### The result of a row -/

theorem draws_withMem (s : State) (m : Memory) : State.draws { s with mem := m } = s.draws := rfl

/-- Where the bytes a row reads are answered, the row has a result, and it depends on no other byte of memory (R30, R235). -/
theorem rowOf_of_spansOk {d : Dir} {f : Fmt} {j : Job} (hd : j.dir = d) (hf : j.fmt = f)
    (hserved : d = .unpack → f ≠ .nv12 ∧ f ≠ .yv12) (hal : j.Aligned) {s : State} {r : Nat}
    (hok : SpansOk s.platform (rowReads j r)) :
    ∃ ws ds, ∀ m : Memory, (∀ a : Nat, Covers (rowReads j r) a → loadByte m a = loadByte s.mem a) →
      rowOf d f { s with mem := m } j r = some (ws, ds) := by
  subst hd hf
  cases hdir : j.dir with
  | pack =>
    simp only [rowReads, hdir] at hok ⊢
    have hload : ∀ m : Memory, (∀ a : Nat, Covers (planeSpans j r) a → loadByte m a = loadByte s.mem a) →
        ∀ ch ∈ familyChans j.q.pfam, loadRow { s with mem := m } j r ch
          = some (tabulate (ncols j.fam j.w ch) fun x => planarSample s.mem j ch r x) := fun m hm ch hch =>
      (loadRow_of_spansOk (s := { s with mem := m }) hok hch).trans
        (congrArg some (tabulate_congr fun x hx => planarSample_of_agree hok hm hch hx))
    exact ⟨_, _, fun m hm => by
      simp only [rowOf, packRow, loadRows_of_loadRow (hload m hm), draws_withMem, Option.map_some]; rfl⟩
  | unpack =>
    simp only [rowReads, hdir] at hok ⊢
    obtain ⟨x, hx⟩ := extractOf_of_answered (hserved hdir) (bytesAt s.mem) j r
    have hread : ∀ m : Memory, (∀ a : Nat, Covers (extSpans j j.w r) a → loadByte m a = loadByte s.mem a) →
        ReadsAgree (extSpans j j.w r) (memRead s.platform m) fun a n => some (bytesAt s.mem a n) :=
      fun m hm a n hn hw => by rw [memRead_of_within hok m hn hw, bytesAt_of_agree hok hm hn hw]
    exact ⟨_, _, fun m hm => by
      simp only [rowOf, unpackRow, extractOf_congr hal.width (hread m hm), hx, draws_withMem, Option.map_some]; rfl⟩

/-- What a row's result is made of: the placement of some arrays, and the draws of the exit stage (R194, R195). -/
theorem rowOf_eq_some {d : Dir} {f : Fmt} {s : State} {j : Job} {r : Nat} {ws : List Wr} {ds : Draws}
    (h : rowOf d f s j r = some (ws, ds)) :
    (∃ o, ws = match d with
      | .pack => placeOf f j r o
      | .unpack => storeRows j r o) ∧ ∃ b ain, ds = (exitRow s.act j r b ain s.draws).2 := by
  cases d with
  | pack =>
    simp only [rowOf, packRow, Option.map_eq_some_iff, Prod.mk.injEq] at h
    obtain ⟨x, -, rfl, rfl⟩ := h
    exact ⟨⟨_, rfl⟩, _, _, rfl⟩
  | unpack =>
    simp only [rowOf, unpackRow, Option.map_eq_some_iff, Prod.mk.injEq] at h
    obtain ⟨x, -, rfl, rfl⟩ := h
    exact ⟨⟨_, rfl⟩, _, _, rfl⟩

/-- The writes of a row fill exactly the bytes of the row's write footprint (R194, R195, R199). -/
theorem writesTo_of_rowOf {d : Dir} {f : Fmt} {j : Job} (hd : j.dir = d) (hf : j.fmt = f) (hal : j.Aligned) {s : State}
    {r : Nat} {ws : List Wr} {ds : Draws} (h : rowOf d f s j r = some (ws, ds)) (a : Int) :
    WritesTo ws a ↔ Covers (rowWrites j r) a := by
  subst hd hf
  obtain ⟨⟨o, rfl⟩, -⟩ := rowOf_eq_some h
  cases hdir : j.dir with
  | pack => simp only [rowWrites, hdir]; exact writesTo_placeOf j r o a (hal.frame hdir)
  | unpack => simp only [rowWrites, hdir]; exact writesTo_storeRows j r o a

/-- Every write of a placement has a byte. -/
theorem pos_of_mem_placeOf (f : Fmt) (j : Job) (r : Nat) (o : Arrays) : ∀ w ∈ placeOf f j r o, 0 < w.n := by
  cases f with
  | nv12 =>
    simp only [placeOf, placeNv12, List.forall_mem_append]
    split <;> simp [tabulate, List.forall_mem_flatMap, -List.mem_flatMap]
  | yv12 =>
    simp only [placeOf, placeYv12, List.forall_mem_append]
    split <;> simp [tabulate, List.forall_mem_flatMap, -List.mem_flatMap]
  | _ => simp [placeOf, placeRgb24, placeRgb32, placeRgba32, placeRgb48, placeRgba64, placeBgra64, placeRg30, placeAr10,
      placeAb10, placeR210, placeDpx0, placeRgb8p, placeRgba8p, placeYuyv, placeUyvy, placeYu64, placeV210, placeAvid28,
      placeAvid214, placeAvid106, tabulate, List.forall_mem_flatMap, -List.mem_flatMap]

theorem pos_of_mem_storeRows (j : Job) (r : Nat) (o : Arrays) : ∀ w ∈ storeRows j r o, 0 < w.n := by
  by_cases h : j.fam = .rgba <;>
    simp [storeRows, storeRow, tabulate, storePlanar, bps_pos, h, List.forall_mem_append, -List.mem_append]

theorem pos_of_mem_rowOf {d : Dir} {f : Fmt} {s : State} {j : Job} {r : Nat} {ws : List Wr} {ds : Draws}
    (h : rowOf d f s j r = some (ws, ds)) : ∀ w ∈ ws, 0 < w.n := by
  obtain ⟨⟨o, rfl⟩, -⟩ := rowOf_eq_some h
  cases d with
  | pack => exact pos_of_mem_placeOf f j r o
  | unpack => exact pos_of_mem_storeRows j r o

/-- No write of a row is refused where its write footprint is answered. -/
theorem writesOk_of_spansOk {p : Platform} {ss : List Span} (hok : SpansOk p ss) {ws : List Wr}
    (hws : ∀ a, WritesTo ws a → Covers ss a) (hpos : ∀ w ∈ ws, 0 < w.n) : writesOk p ws = true := by
  refine List.all_eq_true.2 fun w hw => accessOk_of_bytes (hpos w hw) fun i hi => ?_
  obtain ⟨sp, hsp, h1, h2⟩ := hws (w.addr + i) ⟨w, hw, by omega, by omega⟩
  have hb := hok sp hsp (w.addr + i - sp.start).toNat (by omega)
  rwa [show sp.start + ((w.addr + i - sp.start).toNat : Int) = w.addr + i by omega] at hb

end Sys2Proof.Machine
end

section
/-!
PROOFS. The draws of a row and the frame of a request's step (R30, R33, R114); O21 and O31.
-/

namespace Sys2Proof.Machine

/-! ### The draws of a row -/

/-- Only a seeded draw changes the generator's state (R112, R113). -/
theorem draw_dstate_of_ne {m : DitherMode} (hm : m ≠ .seeded) (sh : Nat) (ds : Draws) :
    (draw m sh ds).2.dstate = ds.dstate := by
  unfold draw
  split
  · rfl
  · cases m with
    | seeded => exact absurd rfl hm
    | free | off => rfl

/-- A draw takes at most one step of the generator (R113). -/
theorem draw_dstate_cases (m : DitherMode) (sh : Nat) (ds : Draws) :
    (draw m sh ds).2.dstate = ds.dstate ∨ (draw m sh ds).2.dstate = seededNext ds.dstate := by
  unfold draw
  split
  · exact .inl rfl
  · cases m with
    | seeded => exact .inr rfl
    | free | off => exact .inl rfl

theorem exitSample_dstate_of_ne {m : DitherMode} (hm : m ≠ .seeded) (it : Item) (ds : Draws) :
    (exitSample m it ds).2.dstate = ds.dstate := by
  rcases exitSample_cases m it ds with ⟨-, h⟩ | ⟨-, h⟩ <;> simp [h, draw_dstate_of_ne hm]

theorem exitSample_dstate_cases (m : DitherMode) (it : Item) (ds : Draws) :
    (exitSample m it ds).2.dstate = ds.dstate ∨ (exitSample m it ds).2.dstate = seededNext ds.dstate := by
  rcases exitSample_cases m it ds with ⟨-, h⟩ | ⟨-, h⟩
  · exact .inl (by rw [h])
  · rw [h]; exact draw_dstate_cases _ _ _

theorem exitStage_dstate_of_ne {m : DitherMode} (hm : m ≠ .seeded) (l : List Item) (ds : Draws) :
    (exitStage m l ds).2.dstate = ds.dstate := by
  induction l generalizing ds with
  | nil => rfl
  | cons it l ih => simp [exitStage, ih, exitSample_dstate_of_ne hm]

/-- The exit stage takes at most one step of the generator for each sample (R114). -/
theorem exitStage_dstate_iterate (m : DitherMode) (l : List Item) (ds : Draws) :
    ∃ n ≤ l.length, (exitStage m l ds).2.dstate = seededNext^[n] ds.dstate := by
  induction l generalizing ds with
  | nil => exact ⟨0, Nat.le_refl _, rfl⟩
  | cons it l ih =>
    obtain ⟨n, hn, hrest⟩ := ih (exitSample m it ds).2
    simp only [exitStage, List.length_cons]
    rcases exitSample_dstate_cases m it ds with h | h
    · exact ⟨n, by omega, by rw [hrest, h]⟩
    · exact ⟨n + 1, by omega, by rw [hrest, h, Function.iterate_succ_apply]⟩

theorem length_pixelItems_le (t : Act) (j : Job) (r : Nat) (b : Rows) (ain : List Int) (x : Nat) :
    (pixelItems t j r b ain x).length ≤ 4 := by
  simp only [pixelItems]
  split <;> split <;> simp

/-- A row has at most four samples a pixel. -/
theorem length_rowItems_le (t : Act) (j : Job) (r : Nat) (b : Rows) (ain : List Int) :
    ((List.range j.w).flatMap (pixelItems t j r b ain)).length ≤ 4 * j.w := by
  rw [List.length_flatMap]
  refine (List.sum_le_card_nsmul _ 4 fun n hn => ?_).trans (by simp [Nat.mul_comm])
  obtain ⟨x, -, rfl⟩ := List.mem_map.1 hn
  exact length_pixelItems_le t j r b ain x

/-- The draws of a row change `dstate` in mode `SEEDED` alone, by at most four steps a pixel (R18, R113, R114). -/
theorem dstate_of_rowOf {d : Dir} {f : Fmt} {s : State} {j : Job} {r : Nat} {ws : List Wr} {ds : Draws}
    (h : rowOf d f s j r = some (ws, ds)) :
    (j.mode ≠ .seeded → ds.dstate = s.dstate) ∧ ∃ n ≤ 4 * j.w, ds.dstate = seededNext^[n] s.dstate := by
  obtain ⟨-, b, ain, rfl⟩ := rowOf_eq_some h
  refine ⟨fun hm => exitStage_dstate_of_ne hm _ _, ?_⟩
  obtain ⟨n, hn, hds⟩ := exitStage_dstate_iterate j.mode ((List.range j.w).flatMap (pixelItems s.act j r b ain)) s.draws
  exact ⟨n, hn.trans (length_rowItems_le s.act j r b ain), hds⟩

/-! ### Stores and what a byte reads after them -/

/-- Answered writes touch addresses of the space alone. -/
theorem bytes_inSpace {p : Platform} {ws : List Wr} (hok : writesOk p ws = true) :
    ∀ x ∈ ws.flatMap Wr.bytes, 0 ≤ x.1 ∧ x.1 < 2 ^ 32 := by
  intro x hx
  obtain ⟨w, hw, hxw⟩ := List.mem_flatMap.1 hx
  have hb := accessOk_bounds (List.all_eq_true.1 hok w hw)
  have hm := mem_bytes hxw
  omega

theorem inSpace_storeBytes {m : Memory} (h : m.inSpace = true) {l : List (Int × Byte)} (hl : ∀ x ∈ l, x.1 < 2 ^ 32) :
    Memory.inSpace (storeBytes m l) = true := by
  induction l generalizing m with
  | nil => exact h
  | cons x l ih =>
    have hx := hl x List.mem_cons_self
    exact ih (inSpace_storeByte h (by omega) _) fun y hy => hl y (List.mem_cons_of_mem _ hy)

/-- Answered writes leave a byte that none of them names alone. -/
theorem loadByte_writes_of_not_writesTo {p : Platform} {ws : List Wr} (hok : writesOk p ws = true) (m : Memory) {a : Nat}
    (h : ¬ WritesTo ws a) : loadByte (storeBytes m (ws.flatMap Wr.bytes)) a = loadByte m a :=
  loadByte_storeBytes_of_forall_ne m _ fun x hx e =>
    h ((exists_mem_bytes_iff ws a).1 ⟨x, hx, by have := bytes_inSpace hok x hx; omega⟩)

/-- A partly written row leaves a byte that none of its writes names alone. -/
theorem loadByte_storeSome_of_not_writesTo (p : Platform) {ws : List Wr} (m : Memory) (k : Nat) {a : Nat}
    (h : ¬ WritesTo ws a) : loadByte (storeSome p (ws.flatMap Wr.bytes) m k).1 a = loadByte m a :=
  loadByte_storeSome_of_forall_ne p _ m k fun x hx e => h ((exists_mem_bytes_iff ws a).1 ⟨x, hx, e⟩)

/-- The same stores into two memories leave them alike wherever they were, or where a store names the byte. -/
theorem loadByte_storeBytes_congr {m m' : Memory} (hm : m.wf = true) (hm' : m'.wf = true) (l : List (Int × Byte)) {a : Nat}
    (h : loadByte m' a = loadByte m a ∨ ∃ x ∈ l, x.1.toNat = a) :
    loadByte (storeBytes m' l) a = loadByte (storeBytes m l) a := by
  induction l generalizing m m' with
  | nil => simpa using h
  | cons x l ih =>
    refine ih (wf_storeByte hm _ _) (wf_storeByte hm' _ _) ?_
    by_cases hx : x.1.toNat = a
    · subst hx
      exact .inl (by rw [loadByte_storeByte_self hm', loadByte_storeByte_self hm])
    · simp only [loadByte_storeByte_of_ne _ _ (Ne.symm hx)]
      simpa [hx] using h

/-! ### What the step of a request leaves unchanged -/

/-- What the engine's step on a request may change (R30, R33): the status, `ROW`, memory, `dstate`, and the model's counter. -/
def SameButEngine (s t : State) : Prop :=
  t = { s with busy := t.busy, done := t.done, err := t.err, row := t.row, mem := t.mem, dstate := t.dstate,
               freeCtr := t.freeCtr }

/-- No byte outside the write footprint reads differently (R33, R199). -/
def SameOutside (j : Job) (m m' : Memory) : Prop :=
  ∀ a : Nat, ¬ Covers (writeFootprint j) a → loadByte m' a = loadByte m a

theorem settle_sameButEngine (j : Job) {s t : State} (h : SameButEngine s t) : SameButEngine s (settle j t) := by
  rcases settle_cases j t with ⟨e, -⟩ | e <;> rw [e]
  · exact h
  · rw [SameButEngine] at h ⊢
    simp only [unspecify]
    rw [h]

@[simp] theorem settle_dstate (j : Job) (s : State) : (settle j s).dstate = s.dstate := by
  rcases settle_cases j s with ⟨e, -⟩ | e <;> rw [e]; rfl

theorem settle_sameOutside (j : Job) {m : Memory} {s : State} (h : SameOutside j m s.mem) :
    SameOutside j m (settle j s).mem := by
  rcases settle_cases j s with ⟨e, -⟩ | e <;> rw [e]
  · exact h
  · exact fun a ha => (loadByte_unspecify _ s ha).trans (h a ha)

/-- A row's step: the frame, memory inside the write footprint, and the draws (R30, R33, R114, R193). -/
theorem rowStep_frame {d : Dir} {f : Fmt} {j : Job} {s : State} (hd : j.dir = d) (hf : j.fmt = f) (hal : j.Aligned)
    (hr : s.row.toNat < j.h) :
    SameButEngine s (rowStep (rowOf d f) j s) ∧ SameOutside j s.mem (rowStep (rowOf d f) j s).mem
      ∧ (j.mode ≠ .seeded → (rowStep (rowOf d f) j s).dstate = s.dstate)
      ∧ ∃ n ≤ 4 * j.w, (rowStep (rowOf d f) j s).dstate = seededNext^[n] s.dstate := by
  rcases rowStep_cases (rowOf d f) j s with ⟨-, e⟩ | ⟨ws, ds, hrow, ⟨hok, e⟩ | ⟨-, e⟩⟩
  · rw [e]
    exact ⟨settle_sameButEngine j rfl, settle_sameOutside j fun _ _ => rfl, fun _ => settle_dstate _ _,
      0, Nat.zero_le _, settle_dstate _ _⟩
  all_goals
    have hws : ∀ a : Nat, ¬ Covers (writeFootprint j) a → ¬ WritesTo ws a := fun a ha hw =>
      ha (covers_writeFootprint_of_rowWrites hr ((writesTo_of_rowOf hd hf hal hrow a).1 hw))
    obtain ⟨hkeep, hiter⟩ := dstate_of_rowOf hrow
    rw [e]
  · exact ⟨rfl, fun a ha => loadByte_writes_of_not_writesTo hok s.mem (hws a ha), hkeep, hiter⟩
  · simp only [settle_dstate, takeWriteError_dstate]
    exact ⟨settle_sameButEngine j rfl,
      settle_sameOutside j fun a ha => loadByte_storeSome_of_not_writesTo _ _ _ (hws a ha), hkeep, hiter⟩

/-- Everything the engine's step on a request does: nothing where the engine is idle, else it stays within its frame, and
what it changes of memory and of `dstate` belongs to the prepared request. -/
theorem exec_reqInstr_frame {d : Dir} {f : Fmt} {q : ReqFields} {s t : State} (h : exec (reqInstr q d f) s = .next t) :
    (s.busy = false → t = s) ∧ SameButEngine s t
      ∧ ((t.mem = s.mem ∧ t.dstate = s.dstate)
        ∨ (s.busy = true ∧ ∃ j, prepare s.cmt d f q s.cur = .ok j ∧ SameOutside j s.mem t.mem
          ∧ (j.mode ≠ .seeded → t.dstate = s.dstate) ∧ ∃ n ≤ 4 * j.w, t.dstate = seededNext^[n] s.dstate)) := by
  rcases exec_reqInstr_cases d f q s with ⟨-, e⟩ | ⟨hb, err, e⟩ | ⟨hb, j, hj, ⟨hr, e⟩ | ⟨-, e⟩⟩ <;>
    rw [e, Host.Outcome.next.injEq] at h <;> subst h
  · exact ⟨fun _ => rfl, rfl, .inl ⟨rfl, rfl⟩⟩
  all_goals refine ⟨fun hb' => by simp [hb] at hb', ?_⟩
  · exact ⟨rfl, .inl ⟨rfl, rfl⟩⟩
  · obtain ⟨-, hd, hf, -⟩ := prepare_eq_ok hj
    obtain ⟨hframe, hrest⟩ := rowStep_frame hd hf (prepare_served_aligned hj).2 hr
    exact ⟨hframe, .inr ⟨hb, j, hj, hrest⟩⟩
  · exact ⟨settle_sameButEngine j rfl, .inr ⟨hb, j, hj, settle_sameOutside j fun _ _ => rfl, fun _ => settle_dstate _ _,
      0, Nat.zero_le _, settle_dstate _ _⟩⟩

/-- Settles O21, from the frame of a row's step and that a row writes inside its write footprint. -/
theorem requestFrame : Obligations.RequestFrame := by
  intro d f q s t h
  obtain ⟨hidle, hframe, hrest⟩ := exec_reqInstr_frame h
  refine ⟨hidle, hframe, fun a ha => ?_, fun hm => ?_⟩
  · rcases hrest with ⟨hmem, -⟩ | ⟨-, j, hj, hmem, -⟩
    · rw [hmem]
    · exact hmem a (ha j hj)
  · rcases hrest with ⟨-, hd⟩ | ⟨-, j, hj, -, hd, -⟩
    · exact hd
    · exact hd (hm j hj)

/-- A row with a result and answered writes completes (R193, R194, R195). -/
theorem exec_row_completes {d : Dir} {f : Fmt} {q : ReqFields} {s : State} {j : Job} {ws : List Wr} {ds : Draws}
    (hb : s.busy = true) (hj : prepare s.cmt d f q s.cur = .ok j) (hr : s.row.toNat < j.h)
    (hrow : rowOf d f s j s.row.toNat = some (ws, ds)) (hok : writesOk s.platform ws = true) :
    exec (reqInstr q d f) s = .next { s with dstate := ds.dstate, freeCtr := ds.ctr, row := s.row + 1,
                                             mem := storeBytes s.mem (ws.flatMap Wr.bytes) } := by
  rw [exec_served (prepare_served_aligned hj).1]
  simp [requestStep, rowStep, hb, hj, hr, hrow, hok]

/-- Settles O31: the row has the same result in both states, and its writes fill the row's write footprint, so what each
memory held there before does not matter. -/
theorem rowDependsOnlyOnBytesRead : Obligations.RowDependsOnlyOnBytesRead := by
  intro d f q s j m hruns hm hagree
  obtain ⟨hwf, hb, hj, hr, hreads, hwrites⟩ := hruns
  obtain ⟨-, hd, hf, -⟩ := prepare_eq_ok hj
  obtain ⟨hserved, hal⟩ := prepare_served_aligned hj
  obtain ⟨ws, ds, hrow⟩ := rowOf_of_spansOk hd hf hserved hal hreads
  have hrow_s : rowOf d f s j s.row.toNat = some (ws, ds) := hrow s.mem fun _ _ => rfl
  have hfill := writesTo_of_rowOf hd hf hal hrow_s
  have hok : writesOk s.platform ws = true :=
    writesOk_of_spansOk hwrites (fun a => (hfill a).1) (pos_of_mem_rowOf hrow_s)
  refine ⟨_, _, exec_row_completes hb hj hr hrow_s hok,
    exec_row_completes (s := { s with mem := m }) hb hj hr (hrow m hagree) hok, rfl, fun a ha => ?_⟩
  obtain ⟨x, hx, hxa⟩ := (exists_mem_bytes_iff ws a).2 ((hfill a).2 ha)
  exact loadByte_storeBytes_congr hwf hm _ (.inr ⟨x, hx, by omega⟩)

end Sys2Proof.Machine
end

section
/-!
PROOFS. Everything one step can be, as the relation `Turn`, and what each turn changes (R10, R236); O28, O29 and O30.
-/

namespace Sys2Proof.Machine

/-! ### What a turn can be -/

theorem fetchRequest_eq_some {s : State} {i : Instr} (h : fetchRequest s = some i) :
    s.busy = true ∧ s.rst = false ∧ ∃ d f q, reqView s.cur.reqOp = some (d, f, q) ∧ i = reqInstr q d f := by
  simp only [fetchRequest, Option.ite_none_right_eq_some, Bool.and_eq_true, Bool.not_eq_true', decode, decodeRequest,
    Option.map_eq_some_iff] at h
  obtain ⟨⟨hb, hr⟩, ⟨d, f, q⟩, hv, rfl⟩ := h
  exact ⟨hb, hr, d, f, q, hv, rfl⟩

theorem fetchCommand_eq_some {s : State} {a v : Word} {width : AccessWidth} {i : Instr}
    (h : fetchCommand s a width v = some i) :
    width = .word ∧ regOf s.platform a .word = some .ctrl ∧ s.rst = false ∧ decode .command v = some i := by
  simp only [fetchCommand, Option.ite_none_right_eq_some, Bool.and_eq_true, decide_eq_true_eq, Bool.not_eq_true'] at h
  obtain ⟨⟨hreg, hr⟩, hd⟩ := h
  obtain rfl := (regOf_eq_some hreg).1
  exact ⟨rfl, hreg, hr, hd⟩

/-- Everything the next step of a state can be, with the state it ends in: the engine's step on the latched request, a
command, or a turn that runs no instruction (R10, R193, R236; log 11). -/
inductive Turn (s : State) : State → Prop where
  | request {t : State} (rest : List HostAct) (d : Dir) (f : Fmt) (q : ReqFields) (busy : s.busy = true) (rst : s.rst = false)
      (view : reqView s.cur.reqOp = some (d, f, q)) (run : exec (reqInstr q d f) { s with host := rest } = .next t) : Turn s t
  | command {t : State} (a v : Word) (rest : List HostAct) (i : Instr) (head : s.host = .regWrite a .word v :: rest)
      (reg : regOf s.platform a .word = some .ctrl) (rst : s.rst = false) (dec : decode .command v = some i)
      (run : exec i { s with host := rest } = .next t) : Turn s t
  | idle (rest : List HostAct) : Turn s (engineIdle { s with host := rest })
  | wait (rest : List HostAct) : Turn s { s with host := rest, readData := statusWord s }
  | regRead (r : Reg) (rest : List HostAct) : Turn s (hostRegRead { s with host := rest } r)
  | regWrite (a v : Word) (r : Reg) (rest : List HostAct) (head : s.host = .regWrite a .word v :: rest)
      (reg : regOf s.platform a .word = some r) : Turn s (hostRegWrite { s with host := rest } v r)
  | memRead (a : Word) (rest : List HostAct) : Turn s (hostLoad { s with host := rest } a)
  | memWrite (a : Word) (b : Byte) (rest : List HostAct) (head : s.host = .memWrite a b :: rest) :
      Turn s (hostStore { s with host := rest } a b)
  | assertReset (rest : List HostAct) (head : s.host = .reset true :: rest) : Turn s (assertReset { s with host := rest })
  | releaseReset (rest : List HostAct) (head : s.host = .reset false :: rest) : Turn s (releaseReset { s with host := rest })

theorem turn_of_fetch {s t u : State} {i : Instr} (hf : fetch s = some (i, u)) (h : exec i u = .next t) : Turn s t := by
  have hrequest : ∀ rest, (fetchRequest s).map (fun i => (i, { s with host := rest })) = some (i, u) → Turn s t := by
    intro rest hm
    obtain ⟨i', hi, e⟩ := Option.map_eq_some_iff.1 hm
    obtain ⟨rfl, rfl⟩ := Prod.mk.inj e
    obtain ⟨hb, hr, d, f, q, hv, rfl⟩ := fetchRequest_eq_some hi
    exact .request rest d f q hb hr hv h
  unfold fetch at hf
  split at hf
  · exact hrequest s.host hf
  · exact hrequest _ hf
  · split at hf
    · cases hf
    · exact hrequest s.host hf
  · rename_i a width v rest hhead
    obtain ⟨i', hi, e⟩ := Option.map_eq_some_iff.1 hf
    obtain ⟨rfl, rfl⟩ := Prod.mk.inj e
    obtain ⟨rfl, hreg, hr, hd⟩ := fetchCommand_eq_some hi
    exact .command a v rest _ hhead hreg hr hd h
  all_goals cases hf

theorem turn_of_otherTurn {s t : State} (h : otherTurn s = .next t) : Turn s t := by
  have haccess : ∀ {a k}, hostAccess s a k = .next t → t = k := by
    intro a k hk
    rcases hostAccess_cases s a k with e | ⟨-, e⟩ | ⟨-, e⟩ <;> rw [e] at hk <;> cases hk
    rfl
  unfold otherTurn at h
  split at h
  · cases h; exact .idle s.host
  · cases h; exact .idle _
  · split at h <;> cases h
    · exact .wait _
    · exact .idle s.host
  · split at h <;> cases h
    exact .regRead _ _
  · rename_i a width v rest hhead
    split at h <;> cases h
    rename_i r hreg
    obtain rfl := (regOf_eq_some hreg).1
    exact .regWrite a v r rest hhead hreg
  · rw [haccess h]; exact .memRead _ _
  · rename_i hhead
    rw [haccess h]; exact .memWrite _ _ _ hhead
  · rename_i hhead
    cases h; exact .assertReset _ hhead
  · rename_i hhead
    cases h; exact .releaseReset _ hhead

/-- A step that answers a next state is one of the turns. -/
theorem turn_of_step {s t : State} (h : step s = .next t) : Turn s t := by
  rcases step_cases s with ⟨i, u, hf, e⟩ | ⟨-, e⟩ <;> rw [e] at h
  · exact turn_of_fetch hf h
  · exact turn_of_otherTurn h

/-! ### What a command can do -/

/-- The parts of a `CTRL` word before its `START` (R12): `SRST` by bit 2, `CLR` where `clr`, and the stored bit `IE`. -/
def commandParts (v : Word) (clr : Bool) (s : State) : State := iePart (bitAt v 8) (clrPart clr (srstPart (bitAt v 2) s))

/-- An idle engine's START latches the live registers (R190, R23); `tainted` is the model's own. -/
def latched (s : State) : State := { clearStatus s with cur := s.regs, tainted := false }

/-- What the command of a `CTRL` word can do (R12, R72): nothing while busy; else its parts, and after them a START that
ends with a configuration error or begins the request. -/
theorem exec_command_cases {v : Word} {i : Instr} {s t : State} (hd : decode .command v = some i) (h : exec i s = .next t) :
    (s.busy = true ∧ t = s)
      ∨ (s.busy = false ∧ ∃ clr, t = commandParts v clr s
        ∨ (∃ e, t = takeConfigError e (latched (commandParts v clr s)))
        ∨ ∃ j, prepareLatched (commandParts v clr s).cmt (commandParts v clr s).regs = .ok j
            ∧ t = { latched (commandParts v clr s) with busy := true }) := by
  cases hb : s.busy with
  | true =>
    refine .inl ⟨rfl, ?_⟩
    simp only [decode, decodeCommand] at hd
    split at hd
    · cases hd; simpa [exec, execStart, hb] using h.symm
    split at hd
    · cases hd; simpa [exec, execClr, hb] using h.symm
    split at hd <;> cases hd
    simpa [exec, execSrst, hb] using h.symm
  | false =>
    refine .inr ⟨rfl, ?_⟩
    simp only [decode, decodeCommand] at hd
    split at hd
    · cases hd
      refine ⟨bitAt v 1, .inr ?_⟩
      simp only [exec, execStart, hb, Bool.false_eq_true, if_false] at h
      rcases acceptStart_cases (commandParts v (bitAt v 1) s) with ⟨e, -, he⟩ | ⟨j, hj, ⟨-, he⟩ | ⟨-, he⟩⟩ <;>
        rw [commandParts] at he <;> rw [he] at h <;> cases h
      · exact .inl ⟨e, rfl⟩
      · exact .inr ⟨j, hj, rfl⟩
    split at hd
    · cases hd
      exact ⟨true, .inl (by simpa [exec, execClr, hb, commandParts, clrPart] using h.symm)⟩
    split at hd <;> cases hd
    rename_i h2
    exact ⟨false, .inl (by simpa [exec, execSrst, hb, commandParts, srstPart, clrPart, h2] using h.symm)⟩

/-- The parts of a `CTRL` word change registers alone, whichever of them the word has. -/
theorem commandParts_frame (v : Word) (clr : Bool) (s : State) :
    (commandParts v clr s).cmt = s.cmt ∧ (commandParts v clr s).act = s.act ∧ (commandParts v clr s).platform = s.platform
      ∧ (commandParts v clr s).mem = s.mem ∧ (commandParts v clr s).rst = s.rst := by
  unfold commandParts clrPart srstPart
  cases clr <;> cases bitAt v 2 <;> exact ⟨rfl, rfl, rfl, rfl, rfl⟩

/-- Of a `CTRL` word's parts only `SRST` changes `dstate` (R231). -/
theorem commandParts_dstate (v : Word) (clr : Bool) (s : State) :
    (commandParts v clr s).dstate = if bitAt v 2 then 1 else s.dstate := by
  unfold commandParts clrPart srstPart
  cases clr <;> cases bitAt v 2 <;> rfl

/-- A command leaves the tables, the platform and memory as they are. -/
theorem exec_command_frame {v : Word} {i : Instr} {s t : State} (hd : decode .command v = some i) (h : exec i s = .next t) :
    t.cmt = s.cmt ∧ t.act = s.act ∧ t.platform = s.platform ∧ t.mem = s.mem := by
  rcases exec_command_cases hd h with ⟨-, rfl⟩ | ⟨-, clr, hparts⟩
  · exact ⟨rfl, rfl, rfl, rfl⟩
  · obtain ⟨hcmt, hact, hplat, hmem, -⟩ := commandParts_frame v clr s
    rcases hparts with rfl | ⟨e, rfl⟩ | ⟨j, -, rfl⟩ <;> exact ⟨hcmt, hact, hplat, hmem⟩

/-- A command changes `dstate` only as an `SRST` of an idle engine, to 1 (R231). -/
theorem exec_command_dstate {v : Word} {i : Instr} {s t : State} (hd : decode .command v = some i) (h : exec i s = .next t) :
    t.dstate = s.dstate ∨ (s.busy = false ∧ bitAt v 2 = true ∧ t.dstate = 1) := by
  rcases exec_command_cases hd h with ⟨-, rfl⟩ | ⟨hb, clr, hparts⟩
  · exact .inl rfl
  · have hds : t.dstate = (commandParts v clr s).dstate := by
      rcases hparts with rfl | ⟨e, rfl⟩ | ⟨j, -, rfl⟩ <;> rfl
    rw [commandParts_dstate] at hds
    cases h2 : bitAt v 2 <;> simp only [h2, Bool.false_eq_true, if_false, if_true] at hds
    · exact .inl hds
    · exact .inr ⟨hb, rfl, hds⟩

/-! ### What a turn without an instruction can do -/

/-- A register write changes registers alone (R11 to R22). -/
theorem writeReg_frame (s : State) (v : Word) (r : Reg) :
    writeReg s v r = { s with regs := (writeReg s v r).regs, ie := (writeReg s v r).ie,
                              dstate := (writeReg s v r).dstate } := by
  unfold writeReg
  split
  · rfl
  · cases r <;> rfl

/-- While busy every register write is ignored (R202). -/
theorem writeReg_of_busy {s : State} (hb : s.busy = true) (v : Word) (r : Reg) : writeReg s v r = s := by
  simp [writeReg, hb]

/-- A host register write is the write of an idle engine out of reset, or nothing (R11, R202, R230). -/
theorem hostRegWrite_cases (s : State) (v : Word) (r : Reg) :
    hostRegWrite s v r = s ∨ (s.busy = false ∧ s.rst = false ∧ hostRegWrite s v r = writeReg s v r) := by
  unfold hostRegWrite
  cases hr : s.rst with
  | true => exact .inl rfl
  | false =>
    cases hb : s.busy with
    | true => exact .inl (writeReg_of_busy hb v r)
    | false => exact .inr ⟨rfl, rfl, rfl⟩

/-- A register write of an idle engine changes `dstate` only where the register is `DITHER_SEED` (R18). -/
theorem writeReg_dstate {s : State} (hb : s.busy = false) (v : Word) (r : Reg) :
    (writeReg s v r).dstate = if r = .ditherSeed then v else s.dstate := by
  simp only [writeReg, hb, Bool.false_eq_true, if_false]
  cases r <;> simp

/-- A host read changes the word read and the model's counter alone (R74; log 16). -/
theorem hostRegRead_frame (s : State) (r : Reg) :
    hostRegRead s r = { s with readData := (hostRegRead s r).readData, freeCtr := (hostRegRead s r).freeCtr } := by
  unfold hostRegRead
  split <;> rfl

theorem hostLoad_frame (s : State) (a : Word) :
    hostLoad s a = { s with readData := (hostLoad s a).readData, freeCtr := (hostLoad s a).freeCtr } := by
  unfold hostLoad
  split <;> rfl

/-- The engine's turn without an instruction changes nothing, or ends a request with an error (R191; log 15). -/
theorem engineIdle_cases (s : State) : engineIdle s = s ∨ ∃ e, engineIdle s = takeConfigError e s := by
  unfold engineIdle
  split
  · exact .inr ⟨_, rfl⟩
  · exact .inl rfl

/-- The release of the reset input resets the registers, where it was asserted (R230). -/
theorem releaseReset_cases (s : State) :
    (s.rst = false ∧ releaseReset s = s) ∨ (s.rst = true ∧ releaseReset s = { resetRegisters s with rst := false }) := by
  unfold releaseReset
  cases hr : s.rst
  · exact .inl ⟨rfl, rfl⟩
  · exact .inr ⟨rfl, rfl⟩

/-! ### The step's frame -/

theorem SameButEngine.surroundings {s t : State} (h : SameButEngine s t) :
    t.cmt = s.cmt ∧ t.act = s.act ∧ t.platform = s.platform ∧ t.regs = s.regs ∧ t.cur = s.cur ∧ t.rst = s.rst := by
  rw [SameButEngine] at h
  exact ⟨(congrArg State.cmt h :), (congrArg State.act h :), (congrArg State.platform h :), (congrArg State.regs h :),
    (congrArg State.cur h :), (congrArg State.rst h :)⟩

/-- Settles O28, turn by turn: requests and commands by their frames, and no other turn touches the three fields. -/
theorem tablesNeverChange : Obligations.TablesNeverChange := by
  intro s t h
  cases turn_of_step h with
  | request rest d f q _ _ _ run =>
    obtain ⟨hcmt, hact, hplat, -⟩ := (exec_reqInstr_frame run).2.1.surroundings
    exact ⟨hcmt, hact, hplat⟩
  | command a v rest i _ _ _ dec run =>
    obtain ⟨hcmt, hact, hplat, -⟩ := exec_command_frame dec run
    exact ⟨hcmt, hact, hplat⟩
  | idle rest =>
    rcases engineIdle_cases { s with host := rest } with e | ⟨_, e⟩ <;> rw [e] <;> exact ⟨rfl, rfl, rfl⟩
  | wait rest => exact ⟨rfl, rfl, rfl⟩
  | regRead r rest => rw [hostRegRead_frame]; exact ⟨rfl, rfl, rfl⟩
  | regWrite a v r rest =>
    rcases hostRegWrite_cases { s with host := rest } v r with e | ⟨-, -, e⟩ <;> rw [e]
    · exact ⟨rfl, rfl, rfl⟩
    · rw [writeReg_frame]; exact ⟨rfl, rfl, rfl⟩
  | memRead a rest => rw [hostLoad_frame]; exact ⟨rfl, rfl, rfl⟩
  | memWrite a b rest => exact ⟨rfl, rfl, rfl⟩
  | assertReset rest => exact ⟨rfl, rfl, rfl⟩
  | releaseReset rest =>
    rcases releaseReset_cases { s with host := rest } with ⟨-, e⟩ | ⟨-, e⟩ <;> rw [e] <;> exact ⟨rfl, rfl, rfl⟩

/-- Settles O29, turn by turn: a request's change is the draws of one row, and of the other turns only a write to
`DITHER_SEED`, the two turns of the reset input and an `SRST` change `dstate`. -/
theorem seedChangesOnlyAsStated : Obligations.SeedChangesOnlyAsStated := by
  intro s t h
  cases turn_of_step h with
  | request rest d f q busy rst _ run =>
    rcases (exec_reqInstr_frame run).2.2 with ⟨-, hds⟩ | ⟨-, j, hj, -, hkeep, hiter⟩
    · exact .inl hds
    · by_cases hm : j.mode = .seeded
      · obtain ⟨hw, -, hmode⟩ := prepare_operands hj
        rw [hm] at hmode
        rw [hw] at hiter
        exact .inr (.inl ⟨busy, rst, hmode, hiter⟩)
      · exact .inl (hkeep hm)
  | command a v rest i head reg rst dec run =>
    rcases exec_command_dstate dec run with hds | ⟨hb, h2, hds⟩
    · exact .inl hds
    · exact .inr (.inr (.inr ⟨hds, .inr (.inr ⟨hb, rst, a, v, rest, head, reg, bitAt_eq_getLsbD v 2 ▸ h2⟩)⟩))
  | idle rest =>
    rcases engineIdle_cases { s with host := rest } with e | ⟨_, e⟩ <;> rw [e] <;> exact .inl rfl
  | wait rest => exact .inl rfl
  | regRead r rest => rw [hostRegRead_frame]; exact .inl rfl
  | regWrite a v r rest head reg =>
    rcases hostRegWrite_cases { s with host := rest } v r with e | ⟨hb, hr, e⟩ <;> rw [e]
    · exact .inl rfl
    · rw [writeReg_dstate hb]
      split
      · subst r; exact .inr (.inr (.inl ⟨hb, hr, a, rest, head, reg⟩))
      · exact .inl rfl
  | memRead a rest => rw [hostLoad_frame]; exact .inl rfl
  | memWrite a b rest => exact .inl rfl
  | assertReset rest head => exact .inr (.inr (.inr ⟨rfl, .inl ⟨rest, head⟩⟩))
  | releaseReset rest head =>
    rcases releaseReset_cases { s with host := rest } with ⟨-, e⟩ | ⟨hr, e⟩ <;> rw [e]
    · exact .inl rfl
    · exact .inr (.inr (.inr ⟨rfl, .inr (.inl ⟨hr, rest, head⟩)⟩))

/-! ### Memory under a step -/

/-- A step changes a byte of memory only in the running request's write footprint, or where the host writes it. -/
theorem step_mem {s t : State} (h : step s = .next t) (a : Nat) :
    loadByte t.mem a = loadByte s.mem a ∨ (s.busy = true ∧ Covers (runningWrites s) a)
      ∨ ∃ w b rest, s.host = .memWrite w b :: rest ∧ w.toNat = a := by
  cases turn_of_step h with
  | request rest d f q busy _ view run =>
    rcases (exec_reqInstr_frame run).2.2 with ⟨hmem, -⟩ | ⟨-, j, hj, hmem, -⟩
    · exact .inl (by rw [hmem])
    · by_cases ha : Covers (writeFootprint j) a
      · exact .inr (.inl ⟨busy, (runningWrites_of_prepare busy view hj).symm ▸ ha⟩)
      · exact .inl (hmem a ha)
  | command a v rest i _ _ _ dec run => exact .inl (by rw [(exec_command_frame dec run).2.2.2])
  | idle rest =>
    rcases engineIdle_cases { s with host := rest } with e | ⟨_, e⟩ <;> rw [e] <;> exact .inl rfl
  | wait rest => exact .inl rfl
  | regRead r rest => rw [hostRegRead_frame]; exact .inl rfl
  | regWrite a v r rest =>
    rcases hostRegWrite_cases { s with host := rest } v r with e | ⟨-, -, e⟩ <;> rw [e]
    · exact .inl rfl
    · rw [writeReg_frame]; exact .inl rfl
  | memRead a rest => rw [hostLoad_frame]; exact .inl rfl
  | memWrite w b rest head =>
    by_cases hw : w.toNat = a
    · exact .inr (.inr ⟨w, b, rest, head, hw⟩)
    · exact .inl (loadByte_storeByte_of_ne _ _ (Ne.symm hw))
  | assertReset rest =>
    by_cases ha : Covers (runningWrites s) a
    · cases hb : s.busy with
      | true => exact .inr (.inl ⟨rfl, ha⟩)
      | false => rw [runningWrites_of_idle hb] at ha; exact absurd ha (covers_nil _)
    · exact .inl (loadByte_unspecify _ { s with host := rest } ha)
  | releaseReset rest =>
    rcases releaseReset_cases { s with host := rest } with ⟨-, e⟩ | ⟨-, e⟩ <;> rw [e] <;> exact .inl rfl

/-- A host access to a backed byte of ordinary memory is done (R40; log 3, log 17). -/
theorem hostAccess_of_backed {s : State} {a : Word} (hok : accessOk s.platform a.toNat 1 = true)
    (hdev : ∀ r ∈ s.platform.devices, r.span.meets ⟨a.toNat, 1⟩ = false) (k : State) : hostAccess s a k = .next k := by
  have hany : (s.platform.devices.any fun r => r.span.meets ⟨a.toNat, 1⟩) = false := by simpa using hdev
  simp [hostAccess, hany, hok]

theorem step_memWrite {s : State} {w : Word} {b : Byte} {rest : List HostAct} (h : s.host = .memWrite w b :: rest) :
    step s = hostAccess s w (hostStore { s with host := rest } w b) := by
  simp [step, fetch, otherTurn, h]

theorem step_memRead {s : State} {w : Word} {rest : List HostAct} (h : s.host = .memRead w :: rest) :
    step s = hostAccess s w (hostLoad { s with host := rest } w) := by
  simp [step, fetch, otherTurn, h]

/-- Outside the write footprint of the running request the host reads what memory holds (R236). -/
theorem hostLoad_of_not_covers {s : State} {w : Word} (h : ¬ Covers (runningWrites s) w.toNat) :
    hostLoad s w = { s with readData := (loadByte s.mem w.toNat).setWidth 32 } := by
  rw [← inSpans_iff] at h
  simp [hostLoad, h]

/-- Settles O30: memory turn by turn, and the two accesses of the host. -/
theorem memoryChangesOnlyInFootprint : Obligations.MemoryChangesOnlyInFootprint := by
  refine ⟨fun s t h a => step_mem h a, fun s w rest hok hdev => ⟨fun b hwf hhead => ?_, fun hcov hhead => ?_⟩⟩
  · exact ⟨_, (step_memWrite hhead).trans (hostAccess_of_backed hok hdev _), loadByte_storeByte_self hwf _ _⟩
  · rw [step_memRead hhead, hostAccess_of_backed hok hdev, hostLoad_of_not_covers (s := { s with host := rest }) hcov]

end Sys2Proof.Machine
end

section
/-!
PROOFS. The invariant: each turn keeps it; O26 and O25.
-/

namespace Sys2Proof.Machine

/-! ### Memory stays canonical and inside the space -/

/-- Memory is in canonical form and inside the space (R40). -/
def MemoryOk (m : Memory) : Prop := m.wf = true ∧ m.inSpace = true

theorem memoryOk_storeFree (p : Platform) (l : List Int) {m : Memory} (h : MemoryOk m) (k : Nat) :
    MemoryOk (storeFree p l m k).1 :=
  ⟨wf_storeFree p l h.1 k, inSpace_storeFree p l h.2 k⟩

theorem memoryOk_settle (j : Job) {s : State} (h : MemoryOk s.mem) : MemoryOk (settle j s).mem := by
  rcases settle_cases j s with ⟨e, -⟩ | e <;> rw [e]
  · exact h
  · exact memoryOk_storeFree _ _ h _

theorem memoryOk_takeWriteError (ws : List Wr) {s : State} (h : MemoryOk s.mem) : MemoryOk (takeWriteError ws s).mem :=
  ⟨wf_storeSome _ _ h.1 _, inSpace_storeSome _ _ h.2 _⟩

theorem memoryOk_writes {p : Platform} {ws : List Wr} (hok : writesOk p ws = true) {m : Memory} (h : MemoryOk m) :
    MemoryOk (storeBytes m (ws.flatMap Wr.bytes)) :=
  ⟨wf_storeBytes h.1 _, inSpace_storeBytes h.2 fun x hx => (bytes_inSpace hok x hx).2⟩

/-! ### Reserved bits stay 0 -/

theorem reservedZero_zero : ReqRegs.zero.reservedZero = true := by decide

theorem toNat_lowBits (v : Word) (n : Nat) : (lowBits v n).toNat = v.toNat % 2 ^ n := by
  have hle := (Nat.mod_le v.toNat (2 ^ n)).trans_lt v.isLt
  simp [lowBits, slice, Nat.mod_eq_of_lt hle]

/-- A word of `n` bits has no bit from `n` on. -/
theorem slice_lowBits (v : Word) (n len : Nat) : slice (lowBits v n) n len = 0 := by
  rw [slice, toNat_lowBits, Nat.div_eq_of_lt (Nat.mod_lt _ (by positivity)), Nat.zero_mod]

/-- A register write stores no reserved bit (R11, R16, R17, R20). -/
theorem reservedZero_writeReg {s : State} (h : s.regs.reservedZero = true) (v : Word) (r : Reg) :
    (writeReg s v r).regs.reservedZero = true := by
  simp only [ReqRegs.reservedZero, Bool.and_eq_true, decide_eq_true_eq, List.all_eq_true] at h ⊢
  obtain ⟨⟨hframe, hdither⟩, htag⟩ := h
  unfold writeReg
  split
  · exact ⟨⟨hframe, hdither⟩, htag⟩
  · cases r with
    | frame => exact ⟨⟨slice_lowBits v 16 16, hdither⟩, htag⟩
    | ditherCtl => exact ⟨⟨hframe, slice_lowBits v 2 30⟩, htag⟩
    | planeTag i =>
      refine ⟨⟨hframe, hdither⟩, fun w hw => ?_⟩
      rw [Vector.toList_set] at hw
      rcases List.mem_or_eq_of_mem_set hw with hw | rfl
      · exact htag w hw
      · exact slice_lowBits v 3 29
    | _ => exact ⟨⟨hframe, hdither⟩, htag⟩

/-! ### The invariant where no request runs -/

/-- A request has ended: of the status the invariant asks nothing more (R217, R219). -/
theorem Inv.of_ended {t : State} (hm : MemoryOk t.mem) (hr : t.regs.reservedZero = true ∧ t.cur.reservedZero = true)
    (hb : t.busy = false) (hd : t.done = true) : Inv t where
  memory := hm
  reserved := hr
  running h := by simp [hb] at h
  ended _ := hd
  idle _ h := by simp [hd] at h

/-- The status is clear: no request runs or has ended, and `ROW` is 0 (R24). -/
theorem Inv.of_clear {t : State} (hm : MemoryOk t.mem) (hr : t.regs.reservedZero = true ∧ t.cur.reservedZero = true)
    (hb : t.busy = false) (he : t.err = .none) (hrow : t.row = 0) : Inv t where
  memory := hm
  reserved := hr
  running h := by simp [hb] at h
  ended h := absurd he h
  idle _ _ := hrow

/-- An idle engine's invariant speaks of memory, of reserved bits and of the status alone. -/
theorem Inv.of_idle {s t : State} (h : Inv s) (hs : s.busy = false) (hm : MemoryOk t.mem)
    (hr : t.regs.reservedZero = true ∧ t.cur.reservedZero = true)
    (hst : t.busy = s.busy ∧ t.done = s.done ∧ t.err = s.err ∧ t.row = s.row) : Inv t := by
  obtain ⟨hb, hd, he, hrow⟩ := hst
  exact ⟨hm, hr, fun hbt => by simp [hb, hs] at hbt, fun het => hd.trans (h.ended (he ▸ het)),
    fun _ hdt => hrow.trans (h.idle hs (hd ▸ hdt))⟩

/-- The host's own fields do not count for the invariant. -/
theorem Inv.withHost {s : State} (h : Inv s) (rest : List HostAct) (w : Word) (k : Nat) :
    Inv { s with host := rest, readData := w, freeCtr := k } :=
  ⟨h.memory, h.reserved, h.running, h.ended, h.idle⟩

theorem Inv.takeConfigError {s : State} (h : Inv s) (e : ErrCode) : Inv (takeConfigError e s) :=
  .of_ended h.memory h.reserved rfl rfl

/-! ### Each turn keeps the invariant -/

@[simp] theorem settle_regs (j : Job) (s : State) : (settle j s).regs = s.regs := by
  rcases settle_cases j s with ⟨e, -⟩ | e <;> rw [e]; rfl
@[simp] theorem settle_cur (j : Job) (s : State) : (settle j s).cur = s.cur := by
  rcases settle_cases j s with ⟨e, -⟩ | e <;> rw [e]; rfl
@[simp] theorem settle_busy (j : Job) (s : State) : (settle j s).busy = s.busy := by
  rcases settle_cases j s with ⟨e, -⟩ | e <;> rw [e]; rfl
@[simp] theorem settle_done (j : Job) (s : State) : (settle j s).done = s.done := by
  rcases settle_cases j s with ⟨e, -⟩ | e <;> rw [e]; rfl

/-- The end of a request keeps the invariant. -/
theorem Inv.settle_of_ended {j : Job} {t : State} (hm : MemoryOk t.mem)
    (hr : t.regs.reservedZero = true ∧ t.cur.reservedZero = true) (hb : t.busy = false) (hd : t.done = true) :
    Inv (settle j t) :=
  .of_ended (memoryOk_settle j hm) (by simpa using hr) (by simpa using hb) (by simpa using hd)

theorem roiH_lt (c : ReqRegs) : roiH c < 2 ^ 16 := Nat.mod_lt _ (by decide)

/-- A completed row keeps the invariant: `ROW` does not pass `ROI.H` (R24, R193). -/
theorem Inv.row_completes {s : State} (h : Inv s) (hb : s.busy = true) (hr : s.row.toNat < roiH s.cur) {m : Memory}
    (hm : MemoryOk m) (w : Word) (k : Nat) :
    Inv { s with dstate := w, freeCtr := k, mem := m, row := s.row + 1 } where
  memory := hm
  reserved := h.reserved
  running _ := by
    obtain ⟨hv, hc, hd, he, -, hrst⟩ := h.running hb
    refine ⟨hv, hc, hd, he, ?_, hrst⟩
    have hlt := roiH_lt s.cur
    rw [show (s.row + 1).toNat = s.row.toNat + 1 by bv_omega]
    exact hr
  ended he := absurd (h.running hb).2.2.2.1 he
  idle hb' := by simp [hb] at hb'

/-- The engine's step on a request keeps the invariant. -/
theorem Inv.exec_reqInstr {d : Dir} {f : Fmt} {q : ReqFields} {s t : State} (h : Inv s)
    (run : exec (reqInstr q d f) s = .next t) : Inv t := by
  rcases exec_reqInstr_cases d f q s with ⟨-, e⟩ | ⟨-, err, e⟩ | ⟨hb, j, hj, ⟨hr, e⟩ | ⟨-, e⟩⟩ <;>
    rw [e, Host.Outcome.next.injEq] at run <;> subst run
  · exact h
  · exact h.takeConfigError err
  · rw [(prepare_operands hj).2.1] at hr
    rcases rowStep_cases (rowOf d f) j s with ⟨-, e⟩ | ⟨ws, ds, -, ⟨hok, e⟩ | ⟨-, e⟩⟩ <;> rw [e]
    · exact .settle_of_ended h.memory h.reserved rfl rfl
    · exact h.row_completes hb hr (memoryOk_writes hok h.memory) _ _
    · exact .settle_of_ended (memoryOk_takeWriteError ws h.memory) h.reserved rfl rfl
  · exact .settle_of_ended h.memory h.reserved rfl rfl

theorem Inv.resetRegisters {s : State} (h : Inv s) : Inv (resetRegisters s) :=
  .of_clear h.memory ⟨reservedZero_zero, reservedZero_zero⟩ rfl rfl rfl

/-- The parts of a `CTRL` word leave an idle engine idle, with the invariant. -/
theorem Inv.commandParts {s : State} (h : Inv s) (hb : s.busy = false) (v : Word) (clr : Bool) :
    Inv (commandParts v clr s) ∧ (commandParts v clr s).busy = false := by
  have hsrst : Inv (srstPart (bitAt v 2) s) ∧ (srstPart (bitAt v 2) s).busy = false := by
    cases bitAt v 2
    · exact ⟨h, hb⟩
    · exact ⟨h.resetRegisters, rfl⟩
  have hclr : Inv (clrPart clr (srstPart (bitAt v 2) s)) ∧ (clrPart clr (srstPart (bitAt v 2) s)).busy = false := by
    cases clr
    · exact hsrst
    · exact ⟨.of_clear hsrst.1.memory hsrst.1.reserved hsrst.2 rfl rfl, hsrst.2⟩
  exact ⟨hclr.1.of_idle hclr.2 hclr.1.memory hclr.1.reserved ⟨rfl, rfl, rfl, rfl⟩, hclr.2⟩

/-- A START that begins a valid request latches it with a clear status (R190, R23). -/
theorem Inv.start {s : State} (h : Inv s) (hrst : s.rst = false) {j : Job} (hj : prepareLatched s.cmt s.regs = .ok j) :
    Inv { latched s with busy := true } where
  memory := h.memory
  reserved := ⟨h.reserved.1, h.reserved.1⟩
  running _ := ⟨validate_of_prepareLatched hj, rfl, rfl, rfl, Nat.zero_le _, hrst⟩
  ended he := absurd rfl he
  idle hb := by cases hb

/-- A command keeps the invariant. -/
theorem Inv.exec_command {v : Word} {i : Instr} {s t : State} (h : Inv s) (hrst : s.rst = false)
    (hd : decode .command v = some i) (run : exec i s = .next t) : Inv t := by
  rcases exec_command_cases hd run with ⟨-, rfl⟩ | ⟨hb, clr, hparts⟩
  · exact h
  · obtain ⟨hp, -⟩ := h.commandParts hb v clr
    rcases hparts with rfl | ⟨e, rfl⟩ | ⟨j, hj, rfl⟩
    · exact hp
    · exact .of_ended hp.memory ⟨hp.reserved.1, hp.reserved.1⟩ rfl rfl
    · exact hp.start ((commandParts_frame v clr s).2.2.2.2.trans hrst) hj

theorem Inv.writeReg {s : State} (h : Inv s) (hb : s.busy = false) (v : Word) (r : Reg) : Inv (writeReg s v r) := by
  have hres := reservedZero_writeReg h.reserved.1 v r
  rw [writeReg_frame]
  exact h.of_idle hb h.memory ⟨hres, h.reserved.2⟩ ⟨rfl, rfl, rfl, rfl⟩

theorem Inv.hostStore {s : State} (h : Inv s) (a : Word) (b : Byte) : Inv (hostStore s a b) :=
  ⟨⟨wf_storeByte h.memory.1 _ _, inSpace_storeByte h.memory.2 a.isLt _⟩, h.reserved, h.running, h.ended, h.idle⟩

/-- Settles O26, turn by turn. -/
theorem stepKeepsInvariant : Obligations.StepKeepsInvariant := by
  intro s t h hstep
  have hhost : ∀ rest, Inv { s with host := rest } := fun rest => h.withHost rest s.readData s.freeCtr
  cases turn_of_step hstep with
  | request rest d f q _ _ _ run => exact (hhost rest).exec_reqInstr run
  | command a v rest i _ _ rst dec run => exact (hhost rest).exec_command rst dec run
  | idle rest =>
    rcases engineIdle_cases { s with host := rest } with e | ⟨err, e⟩ <;> rw [e]
    · exact hhost rest
    · exact (hhost rest).takeConfigError err
  | wait rest => exact h.withHost rest _ s.freeCtr
  | regRead r rest => rw [hostRegRead_frame]; exact h.withHost rest _ _
  | regWrite a v r rest =>
    rcases hostRegWrite_cases { s with host := rest } v r with e | ⟨hb, -, e⟩ <;> rw [e]
    · exact hhost rest
    · exact (hhost rest).writeReg hb v r
  | memRead a rest => rw [hostLoad_frame]; exact h.withHost rest _ _
  | memWrite a b rest => exact (hhost rest).hostStore a b
  | assertReset rest =>
    exact .of_clear (memoryOk_storeFree _ _ h.memory _) ⟨reservedZero_zero, reservedZero_zero⟩ rfl rfl rfl
  | releaseReset rest =>
    rcases releaseReset_cases { s with host := rest } with ⟨-, e⟩ | ⟨-, e⟩ <;> rw [e]
    · exact hhost rest
    · exact .of_clear h.memory ⟨reservedZero_zero, reservedZero_zero⟩ rfl rfl rfl

/-- Settles O25. -/
theorem invariantHoldsAtReset : Obligations.InvariantHoldsAtReset :=
  .of_clear ⟨rfl, rfl⟩ ⟨reservedZero_zero, reservedZero_zero⟩ rfl rfl rfl

end Sys2Proof.Machine
end

section
/-!
PROOFS. The register block, read after write, and the status words (R11 to R22); O13 to O17.
-/

namespace Sys2Proof.Machine

/-! ### A register reads what was written -/

theorem lowBits_eq_and (v : Word) {n : Nat} (hn : n ≤ 32) : lowBits v n = v &&& BitVec.ofNat 32 (2 ^ n - 1) := by
  have hmask : (BitVec.ofNat 32 (2 ^ n - 1)).toNat = 2 ^ n - 1 := by
    have hpos : 0 < 2 ^ n := by positivity
    have hle : 2 ^ n ≤ 2 ^ 32 := Nat.pow_le_pow_right (by decide) hn
    rw [BitVec.toNat_ofNat, Nat.mod_eq_of_lt (by omega)]
  apply BitVec.eq_of_toNat_eq
  rw [toNat_lowBits, BitVec.toNat_and, hmask, Nat.and_two_pow_sub_one_eq_mod]

theorem ofNat_bit8 (v : Word) : BitVec.ofNat 32 (2 ^ 8 * bitVal (bitAt v 8)) = v &&& 0x100 := by
  apply BitVec.eq_of_toNat_eq
  rw [BitVec.toNat_and, show (0x100 : Word).toNat = 2 ^ 8 from rfl, Nat.and_two_pow, bitAt_eq_getLsbD]
  show _ = (v.getLsbD 8).toNat * 2 ^ 8
  cases v.getLsbD 8 <;> rfl

/-- A register but `STATUS` then reads the stored bits of what was written (R11 to R22). -/
theorem readReg_writeReg_self {s : State} (hb : s.busy = false) (v : Word) {r : Reg} (hr : r ≠ .status) :
    readReg (writeReg s v r) r = v &&& r.stored := by
  have hall : v &&& 0xFFFFFFFF = v := BitVec.and_allOnes
  simp only [writeReg, hb, Bool.false_eq_true, if_false]
  cases r with
  | status => exact absurd rfl hr
  | ctrl => exact ofNat_bit8 v
  | frame => exact lowBits_eq_and v (n := 16) (by decide)
  | ditherCtl => exact lowBits_eq_and v (n := 2) (by decide)
  | planeTag i => simpa [readReg, Reg.stored] using lowBits_eq_and v (n := 3) (by decide)
  | reserved => exact BitVec.and_zero.symm
  | reqOp | roi | ditherSeed => exact hall.symm
  | planeBase i | planePitch i | extBase i | extPitch i => simpa [readReg, Reg.stored] using hall.symm

theorem getElem_set_of_ne {α : Type} {n : Nat} (xs : Vector α n) {i k : Fin n} (h : k ≠ i) (x : α) :
    (xs.set i x)[k] = xs[k] :=
  Vector.getElem_set_ne i.isLt k.isLt fun e => h (Fin.ext e.symm)

/-- Every other register reads as before. -/
theorem readReg_writeReg_of_ne {s : State} (hb : s.busy = false) (v : Word) {r r' : Reg} (h : r' ≠ r) :
    readReg (writeReg s v r) r' = readReg s r' := by
  unfold writeReg
  rw [if_neg (by simp [hb])]
  cases r with
  | status | reserved => rfl
  | planeBase i =>
    cases r' with
    | planeBase k => exact getElem_set_of_ne _ (fun e => h (congrArg _ e)) v
    | _ => rfl
  | planePitch i =>
    cases r' with
    | planePitch k => exact getElem_set_of_ne _ (fun e => h (congrArg _ e)) v
    | _ => rfl
  | planeTag i =>
    cases r' with
    | planeTag k => exact getElem_set_of_ne _ (fun e => h (congrArg _ e)) _
    | _ => rfl
  | extBase i =>
    cases r' with
    | extBase k => exact getElem_set_of_ne _ (fun e => h (congrArg _ e)) v
    | _ => rfl
  | extPitch i =>
    cases r' with
    | extPitch k => exact getElem_set_of_ne _ (fun e => h (congrArg _ e)) v
    | _ => rfl
  | ctrl | reqOp | roi | frame | ditherCtl | ditherSeed => cases r' <;> simp_all [readReg, ctrlWord, statusWord]

/-! ### The step of a register access -/

/-- A word written to a register that is not `CTRL`, or with no command, runs no instruction (R12, R72). -/
theorem fetchCommand_eq_none {s : State} {a v : Word} {r : Reg} (hreg : regOf s.platform a .word = some r)
    (h : r ≠ .ctrl ∨ v &&& 7 = 0) : fetchCommand s a .word v = none := by
  rcases h with h | h
  · simp [fetchCommand, hreg, h]
  · simp [fetchCommand, decode_command_eq_none h]

theorem step_regWrite {s : State} {a v : Word} {r : Reg} {rest : List HostAct} (hrst : s.rst = false)
    (hhead : s.host = .regWrite a .word v :: rest) (hreg : regOf s.platform a .word = some r)
    (h : r ≠ .ctrl ∨ v &&& 7 = 0) : step s = .next (writeReg { s with host := rest } v r) := by
  simp [step, fetch, otherTurn, hostRegWrite, hhead, fetchCommand_eq_none hreg h, hreg, hrst]

theorem step_regRead {s : State} {a : Word} {r : Reg} {rest : List HostAct} (hrst : s.rst = false)
    (hhead : s.host = .regRead a .word :: rest) (hreg : regOf s.platform a .word = some r) :
    step s = .next { s with host := rest, readData := readReg s r } := by
  have hread : readReg { s with host := rest } r = readReg s r := by cases r <;> rfl
  have hturn : step s = .next (hostRegRead { s with host := rest } r) := by simp [step, fetch, otherTurn, hhead, hreg]
  rw [hturn, hostRegRead, if_neg (by simp [hrst]), hread]

theorem step_wait_of_done {s : State} {rest : List HostAct} (hhead : s.host = .wait :: rest) (hdone : s.done = true) :
    step s = .next { s with host := rest, readData := readReg s .status } := by
  simp [step, fetch, otherTurn, readReg, hhead, hdone]

/-- Settles O13: read after write, the frame of a write, and the steps of the host's accesses. -/
theorem registersReadBackWhatIsWritten : Obligations.RegistersReadBackWhatIsWritten := by
  refine ⟨fun s v r hb => ⟨readReg_writeReg_self hb v, fun hr => ?_, fun r' hr' => readReg_writeReg_of_ne hb v hr',
      writeReg_frame s v r⟩,
    fun s a v r rest hrst hhead hreg h => step_regWrite hrst hhead hreg h,
    fun s a r rest hrst hhead hreg => step_regRead hrst hhead hreg,
    fun s rest _ hhead hdone => step_wait_of_done hhead hdone⟩
  subst hr
  simp [writeReg]

/-! ### The register block -/

/-- Inside the block each aligned word is reached at its offset, where the block has room (R11, R22). -/
theorem regOf_base_add {p : Platform} (hroom : p.regBase.toNat + 0x80 ≤ 2 ^ 32) {off : Nat} (hle : off ≤ 0x7C)
    (hal : off % 4 = 0) : regOf p (p.regBase + BitVec.ofNat 32 off) .word = some (regAt off) := by
  have haddr : (p.regBase + BitVec.ofNat 32 off).toNat = p.regBase.toNat + off := by
    rw [BitVec.toNat_add, BitVec.toNat_ofNat]
    omega
  simp [regOf, haddr, hle, hal]

/-- The table of R11 gives each register the offset where it lies. -/
theorem regAt_offset {r : Reg} (hr : r ≠ .reserved) : regAt r.offset = r ∧ r.offset ≤ 0x7C ∧ r.offset % 4 = 0 := by
  cases r with
  | reserved => exact absurd rfl hr
  | planeBase i => revert i; decide
  | planePitch i => revert i; decide
  | planeTag i => revert i; decide
  | extBase i => revert i; decide
  | extPitch i => revert i; decide
  | _ => decide

/-- Settles O14. -/
theorem registerBlockMap : Obligations.RegisterBlockMap := by
  intro p hroom
  refine ⟨fun r hr => ?_, fun off hoff => ?_⟩
  · obtain ⟨hat, hle, hal⟩ := regAt_offset hr
    rw [regOf_base_add hroom hle hal, hat]
  · have htable : ∀ off ∈ [0x1C, 0x68, 0x6C, 0x70, 0x74, 0x78, 0x7C],
        off ≤ 0x7C ∧ off % 4 = 0 ∧ regAt off = .reserved := by decide
    obtain ⟨hle, hal, hat⟩ := htable off hoff
    rw [regOf_base_add hroom hle hal, hat]

/-- An access that is not an aligned whole word inside the block reaches no register (R11, R22). -/
theorem regOf_eq_none {p : Platform} {a : Word} {width : AccessWidth}
    (h : width ≠ .word ∨ a.toNat < p.regBase.toNat ∨ p.regBase.toNat + 0x7C < a.toNat
      ∨ (a.toNat - p.regBase.toNat) % 4 ≠ 0) : regOf p a width = none := by
  refine Option.eq_none_iff_forall_ne_some.2 fun r hr => ?_
  obtain ⟨hw, hlow, hhigh, hal, -⟩ := regOf_eq_some hr
  rcases h with h | h | h | h
  · exact h hw
  all_goals omega

/-- Settles O15: no register is reached, so no command is fetched and the turn is refused. -/
theorem accessesOutsideBlockAreRefused : Obligations.AccessesOutsideBlockAreRefused := by
  intro s a width rest hhead h
  have hnone := regOf_eq_none h
  rcases hhead with hhead | ⟨v, hhead⟩
  · simp [step, fetch, otherTurn, hhead, hnone]
  · simp [step, fetch, fetchCommand, otherTurn, hhead, hnone]

/-! ### `STATUS`, `CTRL` and the interrupt output -/

theorem errCode_lt (e : ErrCode) : e.code < 6 := by cases e <;> decide

/-- The word read at `STATUS` as a number (R13): the fields lie beside each other. -/
theorem toNat_statusWord (s : State) :
    (statusWord s).toNat = bitVal s.busy + 2 * bitVal s.done + 2 ^ 4 * s.err.code + 2 ^ 16 * s.row.toNat := by
  have hb := Laws.bitVal_lt s.busy
  have hd := Laws.bitVal_lt s.done
  have he := errCode_lt s.err
  have hr := s.row.isLt
  rw [statusWord, BitVec.toNat_ofNat, Nat.mod_eq_of_lt (by omega)]

theorem ctrlWord_eq (s : State) : ctrlWord s = if s.ie then 0x100 else 0 := by
  cases h : s.ie <;> simp [ctrlWord, h, bitVal]

/-- Settles O16: each field of `STATUS` is read off the sum. -/
theorem statusAndInterruptBits : Obligations.StatusAndInterruptBits := by
  intro s
  have hw := toNat_statusWord s
  have hb := Laws.bitVal_lt s.busy
  have hd := Laws.bitVal_lt s.done
  have he := errCode_lt s.err
  have hslice : ∀ lo len : Nat, ((statusWord s).extractLsb' lo len).toNat = (statusWord s).toNat / 2 ^ lo % 2 ^ len :=
    fun lo len => by rw [BitVec.extractLsb'_toNat, Nat.shiftRight_eq_div_pow]
  refine ⟨?_, ?_, ?_, ?_, ?_, ?_, ctrlWord_eq s, fun h => by simp [irq, h], fun h => by simp [irq, h]⟩
  · rw [readReg, ← bitAt_eq_getLsbD]
    exact bitAt_of_slice (by simp only [slice, hw]; omega)
  · rw [readReg, ← bitAt_eq_getLsbD]
    exact bitAt_of_slice (by simp only [slice, hw]; omega)
  · refine BitVec.eq_of_toNat_eq ((hslice 2 2).trans ?_)
    change _ = 0
    omega
  · refine (hslice 4 3).trans ?_
    have hcode : (statusWord s).toNat / 2 ^ 4 % 2 ^ 3 = s.err.code := by omega
    rw [hcode]
    cases s.err <;> rfl
  · refine BitVec.eq_of_toNat_eq ((hslice 7 9).trans ?_)
    change _ = 0
    omega
  · refine BitVec.eq_of_toNat_eq ((hslice 16 16).trans ?_)
    have hr := s.row.isLt
    omega

/-- Settles O17. -/
theorem resetStateHoldsStatedValues : Obligations.ResetStateHoldsStatedValues := by
  refine ⟨⟨rfl, rfl, rfl, rfl, rfl, rfl, rfl, rfl, rfl, ?_, ?_⟩, rfl, rfl, rfl, rfl⟩ <;> decide

end Sys2Proof.Machine
end

section
/-!
PROOFS. Memory reads and writes (20_memory.md R40, R41, R50); O59 and O60.
-/

namespace Sys2Proof.Machine

/-! ### Little-endian integers -/

/-- Byte `i` of `v` is `v[8i+7:8i]` (R41). -/
theorem toNat_getD_leBytes {n i : Nat} (hi : i < n) (v : Nat) : ((leBytes n v).getD i 0).toNat = v / 256 ^ i % 256 := by
  induction n generalizing i v with
  | zero => omega
  | succ n ih =>
    cases i with
    | zero => simp [leBytes]
    | succ i =>
      calc ((leBytes (n + 1) v).getD (i + 1) 0).toNat
          = v / 256 / 256 ^ i % 256 := ih (Nat.lt_of_succ_lt_succ hi) (v / 256)
        _ = v / 256 ^ (i + 1) % 256 := by rw [Nat.div_div_eq_div_mul, Nat.pow_succ']

/-- An array of bytes composes to the sum of its bytes at their weights (R41). -/
theorem leValue_tabulate (n : Nat) (f : Nat → Byte) :
    leValue (tabulate n f) = ∑ i ∈ Finset.range n, (f i).toNat * 256 ^ i := by
  induction n generalizing f with
  | zero => rfl
  | succ n ih =>
    have hcons : tabulate (n + 1) f = f 0 :: tabulate n fun i => f (i + 1) := by
      simp [tabulate, List.range_succ_eq_map, Function.comp_def]
    rw [hcons, leValue, ih, Finset.sum_range_succ', Finset.mul_sum, pow_zero, mul_one, add_comm]
    congr 1
    exact Finset.sum_congr rfl fun i _ => by rw [pow_succ']; ring

/-! ### Which reads are answered -/

/-- A nonempty access and a region have no byte in common exactly where none of the access's bytes lies in the region. -/
theorem meets_region_eq_false_iff {a : Int} {n : Nat} (hn : 0 < n) (r : Region) :
    Span.meets ⟨a, n⟩ r.span = false ↔ ∀ i : Nat, i < n → ¬ ((r.base : Int) ≤ a + i ∧ a + i < r.base + r.size) := by
  simp only [Span.meets, Bool.and_eq_false_iff, decide_eq_false_iff_not]
  simp only [Region.span]
  constructor
  · intro h i hi
    omega
  · intro h
    -- the first byte that the two could share
    have hfirst := h (max 0 ((r.base : Int) - a)).toNat
    omega

/-- Settles O59, from the condition under which an access is answered and the value its bytes compose to. -/
theorem memoryReadsAreLittleEndian : Obligations.MemoryReadsAreLittleEndian := by
  intro p m a n hwidth
  have hn : 0 < n := by
    simp only [List.mem_cons, List.not_mem_nil, or_false] at hwidth
    omega
  constructor
  · have hanswered : (memRead p m a n).isSome = true ↔ accessOk p a n = true := by
      simp only [Option.isSome_iff_exists, memRead_eq_some_iff, exists_and_left, exists_eq', and_true]
    rw [hanswered, accessOk_iff]
    exact and_congr_right' (and_congr_right' (forall₂_congr fun r _ => meets_region_eq_false_iff hn r))
  · intro v hv
    obtain ⟨-, hbytes⟩ := (memRead_eq_some_iff p m a n v).1 hv
    rw [← hbytes, bytesAt, leValue_tabulate]

/-! ### What a write leaves in memory -/

/-- The bytes of a write at an address that is not negative are pairwise different bytes of memory. -/
theorem pairwise_bytes {w : Wr} (h : 0 ≤ w.addr) : w.bytes.Pairwise fun x y => x.1.toNat ≠ y.1.toNat := by
  refine List.pairwise_map.2 (List.pairwise_lt_range.imp fun {i k} hik => ?_)
  show (w.addr + i).toNat ≠ (w.addr + k).toNat
  omega

/-- Settles O60: the write's bytes lie at different addresses, so each reads as stored, and no other address is named. -/
theorem memoryWritesChangeTheirBytesOnly : Obligations.MemoryWritesChangeTheirBytesOnly := by
  intro m w hm haddr
  refine ⟨wf_storeBytes hm w.bytes, fun i hi => ?_, fun a ha => ?_⟩
  · have hmem : (w.addr + i, (leBytes w.n w.v).getD i 0) ∈ w.bytes := mem_tabulate.2 ⟨i, hi, rfl⟩
    have hread := loadByte_storeBytes_of_mem hm (pairwise_bytes haddr) hmem
    rw [show (w.addr + i).toNat = w.addr.toNat + i by omega] at hread
    rw [hread]
    exact toNat_getD_leBytes hi w.v
  · refine loadByte_storeBytes_of_forall_ne m w.bytes fun x hx => ?_
    have hin := mem_bytes hx
    omega

end Sys2Proof.Machine
end

section
/-!
PROOFS. The addresses of plane rows and external rows, read from the latched registers (20_memory.md R42 to R46); O52.
-/

namespace Sys2Proof.Machine

/-! ### The channel's slot -/

/-- A valid request has exactly one slot for each channel its family needs (R191). -/
theorem tagsBad_of_validate {c : ReqRegs} (h : validate c = none) : tagsBad c (reqFields c.reqOp).pfam = false := by
  simp only [validate, ite_eq_iff, reduceCtorEq, and_false, false_or] at h
  obtain ⟨-, -, h⟩ := h
  split at h
  · cases h
  · simp only [ite_eq_iff, reduceCtorEq, and_false, false_or] at h
    obtain ⟨-, -, -, htags, -⟩ := h
    simpa using htags

/-- What exactly one entry of a list has, the entry that `findIdx` finds has and no other. -/
theorem findIdx_of_countP_eq_one {α : Type} {p : α → Bool} {l : List α} (h : l.countP p = 1) :
    l.findIdx p < l.length ∧ ∀ k (hk : k < l.length), p l[k] = true ↔ k = l.findIdx p := by
  induction l with
  | nil => simp at h
  | cons x l ih =>
    cases hx : p x with
    | true =>
      have hrest : ∀ y ∈ l, ¬ p y = true := by
        rw [← List.countP_eq_zero]
        simpa [List.countP_cons, hx] using h
      refine ⟨by simp [List.findIdx_cons, hx], fun k hk => ?_⟩
      cases k with
      | zero => simp [List.findIdx_cons, hx]
      | succ k => simpa [List.findIdx_cons, hx] using hrest _ (List.getElem_mem (Nat.lt_of_succ_lt_succ hk))
    | false =>
      obtain ⟨hlt, hiff⟩ := ih (by simpa [List.countP_cons, hx] using h)
      refine ⟨by simpa [List.findIdx_cons, hx] using hlt, fun k hk => ?_⟩
      cases k with
      | zero => simp [List.findIdx_cons, hx]
      | succ k => simpa [List.findIdx_cons, hx] using hiff k (by simpa using hk)

/-- The slot of a needed channel of a valid request is the one slot with the channel's tag (R20). -/
theorem slot_of_validate {c : ReqRegs} (h : validate c = none) {ch : Chan}
    (hch : ch ∈ familyChans (reqFields c.reqOp).pfam) :
    ∃ i : Fin 4, slot c ch = i ∧ ∀ k : Fin 4, tagOf c.planeTag[k] = ch.tag ↔ k = i := by
  have hcount : tagCount c ch = 1 := by
    have hbad := tagsBad_of_validate h
    rw [tagsBad, List.any_eq_false] at hbad
    simpa using hbad ch hch
  obtain ⟨hlt, hiff⟩ := findIdx_of_countP_eq_one hcount
  refine ⟨⟨slot c ch, by simpa [slot] using hlt⟩, rfl, fun k => ?_⟩
  have hk := hiff k (by simp)
  rw [decide_eq_true_eq] at hk
  rw [Fin.ext_iff]
  exact hk

/-! ### Registers as numbers -/

theorem slice_eq_toNat_extractLsb' (w : Word) (lo len : Nat) : slice w lo len = (w.extractLsb' lo len).toNat := by
  rw [slice, BitVec.extractLsb'_toNat, Nat.shiftRight_eq_div_pow]

/-- A pitch register as a signed number: bit 31 is its sign (R19, R21). -/
theorem toInt_eq_ite_bit31 (w : Word) :
    w.toInt = if w.getLsbD 31 then (w.toNat : Int) - 2 ^ 32 else (w.toNat : Int) := by
  rw [BitVec.toInt_eq_msb_cond, BitVec.msb_eq_getLsbD_last]
  rfl

theorem getD_toList {n : Nat} (xs : Vector Word n) (i : Fin n) : xs.toList.getD i 0 = xs[i] := by
  simp [List.getD]

/-- Of the five depths only code 0 is 8 bits (R67). -/
theorem decodeDepth_eq_eight_iff {b : BitVec 3} {s : Nat} (h : decodeDepth b = some s) : s = 8 ↔ b = 0 := by
  revert b s
  decide

/-! ### Addresses -/

/-- A plane row's address by the slot its channel has (R43). -/
theorem planeAddr_of_slot {j : Job} {ch : Chan} {i : Fin 4} (h : slot j.c ch = i) (r x : Nat) :
    planeAddr j ch r x = j.c.planeBase[i].toNat + r * j.c.planePitch[i].toInt + x * j.bps := by
  simp only [planeAddr, h, getD_toList]

/-- An external row's address by its buffer's registers (R46). -/
theorem extRowOf_eq (j : Job) (b : Fin 3) (r rows : Nat) :
    extRowOf j b r rows = j.c.extBase[b].toNat + erow j r rows * j.c.extPitch[b].toInt := by
  simp only [extRowOf, getD_toList]

/-- The tag numbers of R20. -/
theorem numberedChans_tag :
    ∀ p ∈ [(Chan.y, 1), (Chan.u, 2), (Chan.v, 3), (Chan.r, 4), (Chan.g, 5), (Chan.b, 6), (Chan.a, 7)], p.1.tag = p.2 := by
  decide

/-- Settles O52: the slot of a channel by its tag, then each address by the registers it is made from. -/
theorem addressesFollowLatchedRegisters : Obligations.AddressesFollowLatchedRegisters := by
  intro t d f q c j hj
  obtain ⟨hvalid, -, -, hq, hc, hdepth, -⟩ := prepare_eq_ok hj
  obtain ⟨hw, hh, -⟩ := prepare_operands hj
  have hfw : j.fw = frameW c := by rw [Job.fw, hc]; rfl
  dsimp only
  simp only [← slice_eq_toNat_extractLsb', ← toInt_eq_ite_bit31]
  refine ⟨hw, hh, hfw, fun p hp hneeded => ?_, fun b r => ?_⟩
  · have htag : p.1.tag = p.2 := numberedChans_tag p hp
    have hch : p.1 ∈ familyChans (reqFields j.c.reqOp).pfam := by rw [hc, reqFields_reqWord]; exact hneeded
    obtain ⟨i, hslot, hiff⟩ := slot_of_validate (hc ▸ hvalid) hch
    have hbps : j.bps = if q.pdepth = 0 then 1 else 2 := by
      simp only [Job.bps, decodeDepth_eq_eight_iff hdepth]
    rw [htag, hc] at hiff
    refine ⟨i, hiff, fun r x => ?_⟩
    rw [planeAddr_of_slot hslot, hbps, hc]
    push_cast
    rfl
  · have haddr : ∀ r rows : Nat, extRowOf j b r rows
        = c.extBase[b].toNat + (if q.vflip then (rows : Int) - 1 - r else r) * c.extPitch[b].toInt := fun r rows => by
      rw [extRowOf_eq, erow, hq, hc]
    refine ⟨?_, fun _ => ⟨?_, rfl⟩⟩
    · rw [extRow, haddr, hh]; rfl
    · rw [chromaRow, haddr, hh]; rfl

end Sys2Proof.Machine
end

section
/-!
PROOFS. START over memory with read side effects (20_memory.md R49); O8.
-/

namespace Sys2Proof.Machine

/-- `CLR` in a `CTRL` word leaves alone what a START reads (R218, R190). -/
theorem clrPart_frame (clr : Bool) (s : State) :
    (clrPart clr s).cmt = s.cmt ∧ (clrPart clr s).regs = s.regs ∧ (clrPart clr s).platform = s.platform := by
  cases clr <;> exact ⟨rfl, rfl, rfl⟩

/-- START of an idle engine, without `SRST` (R190). -/
theorem exec_start_of_idle {s : State} (h : s.busy = false) (clr ie : Bool) :
    exec (.start false clr ie) s = acceptStart (iePart ie (clrPart clr s)) := by
  show execStart false clr ie s = _
  simp [execStart, srstPart, h]

/-- Settles O8: of the outcomes of a START only the refusal is left where a footprint touches a device. -/
theorem startOverDevicesIsRefused : Obligations.StartOverDevicesIsRefused := by
  intro s clr ie j r hidle hj hr htouch
  obtain ⟨hcmt, hregs, hplat⟩ := clrPart_frame clr s
  rw [exec_start_of_idle hidle]
  have hcases := acceptStart_cases (iePart ie (clrPart clr s))
  simp only [iePart_cmt, iePart_regs, iePart_platform, hcmt, hregs, hplat, hj] at hcases
  rcases hcases with ⟨e, he, -⟩ | ⟨j', hj', ⟨-, hrefused⟩ | ⟨hclear, -⟩⟩
  · cases he
  · exact hrefused
  · cases hj'
    exact absurd htouch (List.any_eq_false.1 hclear r hr)

end Sys2Proof.Machine
end

section
/-!
PROOFS. The decoder and the encoder of the two instruction spaces undo each other, and the words that name no instruction
(30_encoding.md R61, R62, R69, R72); O1 to O5.
-/

namespace Sys2Proof.Machine

/-! ### Request words -/

/-- A built request word decodes to the row of its direction and layout (R61, R200). -/
theorem decode_reqWord (d : Dir) (f : Fmt) (q : ReqFields) :
    decode .request (reqWord d f q) = some (reqInstr q d f) := by
  simp [decode, decodeRequest, reqView_reqWord]

/-- The row of a direction and a layout is encoded as their request word (R61). -/
theorem encode_reqInstr (d : Dir) (f : Fmt) (q : ReqFields) :
    encode (reqInstr q d f) = (.request, reqWord d f q) := by
  cases d <;> cases f <;> rfl

/-- The reserved tags (R62). -/
theorem ofTag_eq_none_iff (n : Nat) : Fmt.ofTag n = none ↔ n = 0 ∨ 23 ≤ n := by
  constructor
  · intro h
    by_contra hn
    obtain ⟨hpos, hlt⟩ : 0 < n ∧ n < 23 := by omega
    interval_cases n <;> cases h
  · intro h
    cases hf : Fmt.ofTag n with
    | none => rfl
    | some f =>
      have hrange := Laws.tag_pos_lt f
      rw [tag_of_ofTag hf] at hrange
      omega

/-- A word names no request where a reserved bit is set or its tag is reserved (R69). -/
theorem decode_request_eq_none_iff (w : Word) :
    decode .request w = none ↔ reqReservedZero w = false ∨ Fmt.ofTag (slice w 0 6) = none := by
  cases h : reqReservedZero w <;> simp [decode, decodeRequest, reqView, h]

/-! ### Command words -/

/-- The bits of a command word that carry something are the parts it was built from (R72). -/
theorem bitAt_commandWord (start clr srst ie : Bool) :
    bitAt (commandWord start clr srst ie) 0 = start ∧ bitAt (commandWord start clr srst ie) 1 = clr
      ∧ bitAt (commandWord start clr srst ie) 2 = srst ∧ bitAt (commandWord start clr srst ie) 8 = ie := by
  have h0 := Laws.bitVal_lt start
  have h1 := Laws.bitVal_lt clr
  have h2 := Laws.bitVal_lt srst
  have h8 := Laws.bitVal_lt ie
  refine ⟨bitAt_of_slice ?_, bitAt_of_slice ?_, bitAt_of_slice ?_, bitAt_of_slice ?_⟩ <;>
    simp only [slice, commandWord, BitVec.toNat_ofNat] <;> omega

/-- A built command word decodes to the last of the commands it carries (R12, R72). -/
theorem decode_commandWord (start clr srst ie : Bool) :
    decode .command (commandWord start clr srst ie)
      = if start then some (.start srst clr ie) else if clr then some (.clr srst ie)
        else if srst then some (.srst ie) else none := by
  obtain ⟨h0, h1, h2, h8⟩ := bitAt_commandWord start clr srst ie
  simp only [decode, decodeCommand, h0, h1, h2, h8]

/-- Command words that agree in bits 0, 1, 2 and 8 carry the same commands (R72). -/
theorem decode_command_congr {v w : Word} (h0 : bitAt v 0 = bitAt w 0) (h1 : bitAt v 1 = bitAt w 1)
    (h2 : bitAt v 2 = bitAt w 2) (h8 : bitAt v 8 = bitAt w 8) : decode .command v = decode .command w := by
  simp only [decode, decodeCommand, h0, h1, h2, h8]

/-- A mask keeps the bits it has. -/
theorem bitAt_and_of_bitAt {w m : Word} {i : Nat} (h : bitAt m i = true) : bitAt (w &&& m) i = bitAt w i := by
  rw [bitAt_eq_getLsbD] at h
  simp [bitAt_eq_getLsbD, h]

/-- A word without a command has none of bits 2:0 set (R72). -/
theorem and_seven_eq_zero_of_decode {w : Word} (h : decode .command w = none) : w &&& 7 = 0 := by
  simp only [decode, decodeCommand, ite_eq_iff, reduceCtorEq, and_false, false_or, and_true,
    Bool.not_eq_true] at h
  obtain ⟨h0, h1, h2⟩ := h
  have b0 := bitVal_bitAt w 0
  have b1 := bitVal_bitAt w 1
  have b2 := bitVal_bitAt w 2
  simp only [h0, h1, h2, bitVal, Bool.false_eq_true, if_false] at b0 b1 b2
  apply BitVec.eq_of_toNat_eq
  calc (w &&& 7).toNat = w.toNat % 2 ^ 3 := Nat.and_two_pow_sub_one_eq_mod w.toNat 3
    _ = 0 := by omega

/-! ### The obligations -/

/-- Settles O1: a request is the row of its direction and layout, and a command word keeps its parts. -/
theorem decodeInvertsEncode : Obligations.DecodeInvertsEncode := by
  intro i
  cases i with
  | start withSrst withClr ie => exact decode_commandWord true withClr withSrst ie
  | clr withSrst ie => exact decode_commandWord false true withSrst ie
  | srst ie => exact decode_commandWord false false true ie
  | _ q => exact decode_reqWord _ _ q

/-- Settles O2: a word that names a request is the word built from its parts. -/
theorem encodeInvertsDecode : Obligations.EncodeInvertsDecode := by
  intro w i h
  obtain ⟨⟨d, f, q⟩, hview, rfl⟩ := Option.map_eq_some_iff.1 h
  rw [encode_reqInstr, reqWord_of_reqView hview]

/-- Settles O3: the reserved bits and the reserved tags, read as fields of the word. -/
theorem requestWordsRefusedExactly : Obligations.RequestWordsRefusedExactly := by
  intro w
  have hhigh : w.extractLsb' 21 11 ≠ 0 ↔ slice w 21 11 ≠ 0 := by
    rw [slice_eq_toNat_extractLsb', Ne, Ne, BitVec.toNat_eq]; rfl
  have htag : w.extractLsb' 0 6 = 0 ↔ slice w 0 6 = 0 := by
    rw [slice_eq_toNat_extractLsb', BitVec.toNat_eq]; rfl
  rw [decode_request_eq_none_iff, ofTag_eq_none_iff, hhigh, htag, ← slice_eq_toNat_extractLsb', ← bitAt_eq_getLsbD]
  simp [reqReservedZero, imp_iff_not_or, or_assoc]

/-- Settles O4: the mask 0x107 keeps the four bits that count. -/
theorem commandWordsIgnoreReservedBits : Obligations.CommandWordsIgnoreReservedBits := by
  intro w
  refine ⟨(decode_command_congr ?_ ?_ ?_ ?_).symm, and_seven_eq_zero_of_decode, decode_command_eq_none⟩ <;>
    exact bitAt_and_of_bitAt (by decide)

/-- A word that encodes an instruction decodes to it. -/
theorem decode_of_encode_eq {p : Space} {w : Word} {i : Instr} (h : encode i = (p, w)) : decode p w = some i := by
  have hi := decodeInvertsEncode i
  rwa [h] at hi

/-- Settles O5: each word is the encoding of the instruction it names. -/
theorem decodedWordsNameTheirRows : Obligations.DecodedWordsNameTheirRows := by
  refine ⟨?_, ?_, ?_, ?_, ?_, ?_, ?_, ?_⟩ <;> exact decode_of_encode_eq (by decide)

end Sys2Proof.Machine
end

section
/-!
PROOFS. The row form of the 601 to 709 correction, and its place before all other steps of `Convert`
(41_color_matrix_transform.md R93, R96; 46_row_driver.md R203); O45.
-/

namespace Sys2Proof.Machine

/-- The correction of a row written by the number of luma columns that share a chroma sample (R96); the corrected chroma does
not depend on luma (R93). -/
theorem correctRow_eq (k : C709Record) (d w : Nat) (half : Bool) (a : Rows) {n : Nat} (hn : n = if half then 2 else 1) :
    correctRow k d w half a =
      { c0 := tabulate w fun x => (c709 d k (nth a.c0 x) (nth a.c1 (x / n)) (nth a.c2 (x / n))).1
        c1 := tabulate (w / n) fun i => (c709 d k (nth a.c0 i) (nth a.c1 i) (nth a.c2 i)).2.1
        c2 := tabulate (w / n) fun i => (c709 d k (nth a.c0 i) (nth a.c1 i) (nth a.c2 i)).2.2 } := by
  subst hn
  cases half
  · simp only [correctRow, Bool.false_eq_true, if_false, Nat.div_one]; rfl
  · rfl

/-- The request without the correction's flag. -/
def Job.withoutCorrection (j : Job) : Job := { j with q := { j.q with c709 := false } }

/-- The correction is the only step of `Convert` that sees its flag, and it is the first one (R203). -/
theorem convert_eq_convert_withoutCorrection (k : C709Record) (j : Job) (a : Rows) :
    convert k j a = convert k j.withoutCorrection (convertCorrect k j a) := by
  have hplain : convertCorrect k j.withoutCorrection (convertCorrect k j a) = convertCorrect k j a := by
    simp [convertCorrect, Job.withoutCorrection]
  unfold convert
  rw [hplain]
  rfl

theorem convertCorrect_of_yuv {j : Job} (hin : j.inner.isYuv = true) (hflag : j.q.c709 = true) (k : C709Record) (a : Rows) :
    convertCorrect k j a = correctRow k j.dw j.w j.inner.halfChroma a := by
  simp [convertCorrect, hin, hflag]

theorem convertCorrect_of_rgb {j : Job} (hin : j.inner.isYuv = false) (k : C709Record) (a : Rows) :
    convertCorrect k j a = a := by
  simp [convertCorrect, hin]

/-- No input side is 4:2:0, so its chroma is halved only where it is 4:2:2 (R66, R143, R145). -/
theorem columnsPerChroma_eq {s : Structure} (h : s ≠ .yuv420) :
    (if s = .yuv422 then 2 else 1) = if s.halfChroma then 2 else 1 := by
  cases s with
  | yuv420 => exact absurd rfl h
  | _ => rfl

/-- Settles O45: with the flag, the first step of `Convert` is the correction; with an RGB input, it does nothing. -/
theorem correctionComesFirst : Obligations.CorrectionComesFirst := by
  intro k j a hinner half corrected plain
  constructor
  · intro hin hflag
    rw [convert_eq_convert_withoutCorrection, convertCorrect_of_yuv hin hflag,
      correctRow_eq k j.dw j.w _ a (columnsPerChroma_eq hinner)]
    rfl
  · intro hin
    rw [convert_eq_convert_withoutCorrection, convertCorrect_of_rgb hin]
    rfl

end Sys2Proof.Machine
end

section
/-!
PROOFS. Every sample stays in the range of its depth: through the entry stage, through each step of `Convert`, through the
exit stage, and in the fill (41_color_matrix_transform.md R94; 43_bit_depth_rescaler.md R110, R111, R120 to R123;
44_format_codecs_yuv.md R130, R133); O49.
-/

namespace Sys2Proof.Machine

/-! ### One sample -/

/-- The sample is in `0 .. 2^D - 1`. -/
def SampleInRange (d : Nat) (v : Int) : Prop := 0 ≤ v ∧ v < 2 ^ d

theorem rowsInRange_iff (d : Nat) (b : Rows) :
    RowsInRange d b ↔ (∀ v ∈ b.c0, SampleInRange d v) ∧ (∀ v ∈ b.c1, SampleInRange d v) ∧ ∀ v ∈ b.c2, SampleInRange d v := by
  simp [RowsInRange, SampleInRange]

theorem sampleInRange_zero (d : Nat) : SampleInRange d 0 := ⟨le_refl 0, by positivity⟩

theorem sampleInRange_sat (d : Nat) (x : Int) : SampleInRange d (sat d x) := by
  have hpos : (0 : Int) < 2 ^ d := by positivity
  unfold sat clamp SampleInRange
  split
  · exact ⟨le_refl 0, hpos⟩
  · split <;> omega

theorem sampleInRange_narrow (v : Int) (s t d : Nat) : SampleInRange t (narrow v s t d) := sampleInRange_sat t _

theorem sampleInRange_widen {s t : Nat} {v : Int} (h : SampleInRange s v) (hst : s ≤ t) : SampleInRange t (widen v s t) := by
  obtain ⟨h0, hlt⟩ := h
  refine ⟨mul_nonneg h0 (by positivity), ?_⟩
  calc v * 2 ^ (t - s) < 2 ^ s * 2 ^ (t - s) := mul_lt_mul_of_pos_right hlt (by positivity)
    _ = 2 ^ t := by rw [← pow_add, Nat.add_sub_cancel' hst]

/-- Dropping the low bits of a sample takes it to the smaller depth. -/
theorem sampleInRange_asr {s t : Nat} {v : Int} (h : SampleInRange s v) (hts : t ≤ s) :
    SampleInRange t (asr v (s - t)) := by
  obtain ⟨h0, hlt⟩ := h
  refine ⟨Int.ediv_nonneg h0 (by positivity), Int.ediv_lt_of_lt_mul (by positivity) ?_⟩
  rwa [← pow_add, Nat.add_sub_cancel' hts]

/-- The average of two samples, truncated (`c = 0`, R100) or rounded (`c = 1`, R102). -/
theorem sampleInRange_average {d : Nat} {u v c : Int} (hu : SampleInRange d u) (hv : SampleInRange d v) (hc : 0 ≤ c)
    (hc' : c ≤ 1) : SampleInRange d (asr (u + v + c) 1) := by
  unfold SampleInRange asr at *
  omega

theorem sampleInRange_nth {d : Nat} {l : List Int} (h : ∀ v ∈ l, SampleInRange d v) (i : Nat) :
    SampleInRange d (nth l i) := by
  unfold nth
  rcases Nat.lt_or_ge i l.length with hi | hi
  · rw [List.getD_eq_getElem l default hi]
    exact h _ (List.getElem_mem hi)
  · rw [List.getD_eq_default l default hi]
    exact sampleInRange_zero d

theorem forall_mem_tabulate {α : Type} {P : α → Prop} {n : Nat} {f : Nat → α} (h : ∀ i, P (f i)) :
    ∀ v ∈ tabulate n f, P v := by
  intro v hv
  obtain ⟨i, -, rfl⟩ := mem_tabulate.1 hv
  exact h i

/-! ### The depths of a request -/

theorem fmtDepth_bounds (f : Fmt) : 8 ≤ fmtDepth f ∧ fmtDepth f ≤ 16 := by cases f <;> decide

theorem decodeDepth_le {b : BitVec 3} {s : Nat} (h : decodeDepth b = some s) : s ≤ 16 := by
  unfold decodeDepth at h
  split at h <;> cases h <;> decide

theorem dout_of_pack {j : Job} (h : j.dir = .pack) : j.dout = j.dext := by simp only [Job.dout, h]

theorem dout_of_unpack {j : Job} (h : j.dir = .unpack) : j.dout = j.s := by simp only [Job.dout, h]

theorem din_le_dw (j : Job) : j.din ≤ j.dw := by
  unfold Job.din Job.dw
  split
  · exact le_max_left _ _
  · exact le_max_right _ _

theorem dout_le_dw (j : Job) : j.dout ≤ j.dw := by
  unfold Job.dout Job.dw
  split
  · exact le_max_right _ _
  · exact le_max_left _ _

/-! ### `Convert` -/

/-- A sample enters the working depth in range, whatever was loaded (R120). -/
theorem sampleInRange_toWorking (j : Job) (v : Int) : SampleInRange j.dw (toWorking j v) :=
  sampleInRange_widen (sampleInRange_sat j.din v) (din_le_dw j)

theorem rowsInRange_enterRows (j : Job) (a : Rows) : RowsInRange j.dw (enterRows j a) := by
  have hmap (l : List Int) : ∀ v ∈ l.map (toWorking j), SampleInRange j.dw v :=
    List.forall_mem_map.2 fun v _ => sampleInRange_toWorking j v
  exact (rowsInRange_iff _ _).2 ⟨hmap _, hmap _, hmap _⟩

/-- The correction saturates its three results (R93). -/
theorem rowsInRange_correctRow (k : C709Record) (d w : Nat) (half : Bool) (a : Rows) :
    RowsInRange d (correctRow k d w half a) :=
  (rowsInRange_iff _ _).2 ⟨forall_mem_tabulate fun _ => sampleInRange_sat d _,
    forall_mem_tabulate fun _ => sampleInRange_sat d _, forall_mem_tabulate fun _ => sampleInRange_sat d _⟩

/-- A pixel operation whose three results are in range keeps a row in range (R95). -/
theorem rowsInRange_matrixRow {d : Nat} {f : Int → Int → Int → Int × Int × Int}
    (hf : ∀ x y z, SampleInRange d (f x y z).1 ∧ SampleInRange d (f x y z).2.1 ∧ SampleInRange d (f x y z).2.2)
    (w : Nat) (a : Rows) : RowsInRange d (matrixRow f w a) :=
  (rowsInRange_iff _ _).2 ⟨forall_mem_tabulate fun _ => (hf _ _ _).1, forall_mem_tabulate fun _ => (hf _ _ _).2.1,
    forall_mem_tabulate fun _ => (hf _ _ _).2.2⟩

/-- The matrix saturates its three results in both directions (R91, R92, R94). -/
theorem sampleInRange_y2r (d : Nat) (e : Y2rRecord) (y u v : Int) :
    SampleInRange d (y2r d e y u v).1 ∧ SampleInRange d (y2r d e y u v).2.1 ∧ SampleInRange d (y2r d e y u v).2.2 :=
  ⟨sampleInRange_sat d _, sampleInRange_sat d _, sampleInRange_sat d _⟩

theorem sampleInRange_r2y (d : Nat) (e : R2yRecord) (r g b : Int) :
    SampleInRange d (r2y d e r g b).1 ∧ SampleInRange d (r2y d e r g b).2.1 ∧ SampleInRange d (r2y d e r g b).2.2 :=
  ⟨sampleInRange_sat d _, sampleInRange_sat d _, sampleInRange_sat d _⟩

theorem sampleInRange_crsUp {d : Nat} {c : List Int} (h : ∀ v ∈ c, SampleInRange d v) (n : Nat) :
    ∀ v ∈ crsUp c n, SampleInRange d v := by
  refine forall_mem_tabulate fun x => ?_
  have hn := sampleInRange_nth h
  dsimp only
  split
  · exact hn _
  · split
    · simpa using sampleInRange_average (hn (x / 2)) (hn (x / 2 + 1)) (le_refl 0) zero_le_one
    · exact hn _

theorem sampleInRange_crsRep {d : Nat} {c : List Int} (h : ∀ v ∈ c, SampleInRange d v) (n : Nat) :
    ∀ v ∈ crsRep c n, SampleInRange d v :=
  forall_mem_tabulate fun _ => sampleInRange_nth h _

theorem sampleInRange_crsDown {d : Nat} {c : List Int} (h : ∀ v ∈ c, SampleInRange d v) (n : Nat) :
    ∀ v ∈ crsDown c n, SampleInRange d v :=
  forall_mem_tabulate fun _ =>
    sampleInRange_average (sampleInRange_nth h _) (sampleInRange_nth h _) zero_le_one (le_refl 1)

/-- A resampler that keeps samples in range does so of a row. -/
theorem rowsInRange_onChroma {d : Nat} {f : List Int → List Int}
    (hf : ∀ c, (∀ v ∈ c, SampleInRange d v) → ∀ v ∈ f c, SampleInRange d v) {a : Rows} (h : RowsInRange d a) :
    RowsInRange d (onChroma f a) := by
  obtain ⟨h0, h1, h2⟩ := (rowsInRange_iff d a).1 h
  exact (rowsInRange_iff _ _).2 ⟨h0, hf _ h1, hf _ h2⟩

theorem rowsInRange_convertCorrect (k : C709Record) {j : Job} {a : Rows} (h : RowsInRange j.dw a) :
    RowsInRange j.dw (convertCorrect k j a) := by
  unfold convertCorrect
  split
  · exact rowsInRange_correctRow k j.dw j.w _ a
  · exact h

theorem rowsInRange_convertUp {j : Job} {a : Rows} (h : RowsInRange j.dw a) : RowsInRange j.dw (convertUp j a) := by
  unfold convertUp
  split
  · refine rowsInRange_onChroma (fun c hc => ?_) h
    split
    · exact sampleInRange_crsUp hc _
    · exact sampleInRange_crsRep hc _
  · exact h

theorem rowsInRange_convertMatrix {j : Job} {a : Rows} (h : RowsInRange j.dw a) : RowsInRange j.dw (convertMatrix j a) := by
  unfold convertMatrix
  split
  · exact rowsInRange_matrixRow (sampleInRange_y2r j.dw _) _ _
  · split
    · exact rowsInRange_matrixRow (sampleInRange_r2y j.dw _) _ _
    · exact h

theorem rowsInRange_convertDown {j : Job} {a : Rows} (h : RowsInRange j.dw a) : RowsInRange j.dw (convertDown j a) := by
  unfold convertDown
  split
  · exact rowsInRange_onChroma (fun c hc => sampleInRange_crsDown hc _) h
  · exact h

/-- `Convert` keeps samples in the range of the working depth, for every table (R94, R203). -/
theorem rowsInRange_convert (k : C709Record) {j : Job} {a : Rows} (h : RowsInRange j.dw a) :
    RowsInRange j.dw (convert k j a) :=
  rowsInRange_convertDown (rowsInRange_convertMatrix (rowsInRange_convertUp (rowsInRange_convertCorrect k h)))

/-! ### The exit stage -/

/-- An output sample goes to depth `D`, and is in range already where it keeps its value (R121, R123). -/
def Item.FitsAt (d : Nat) (it : Item) : Prop := it.t = d ∧ (it.s ≤ d → SampleInRange d it.v)

theorem sampleInRange_exitSample {d : Nat} {it : Item} (h : it.FitsAt d) (m : DitherMode) (ds : Draws) :
    SampleInRange d (exitSample m it ds).1 := by
  obtain ⟨rfl, hkept⟩ := h
  rcases exitSample_cases m it ds with ⟨hle, he⟩ | ⟨-, he⟩
  · rw [he]; exact hkept hle
  · rw [he]; exact sampleInRange_narrow _ _ _ _

theorem exitStage_lt {d : Nat} {l : List Item} (h : ∀ it ∈ l, it.FitsAt d) (m : DitherMode) (ds : Draws) :
    ∀ o ∈ (exitStage m l ds).1, o.2 < 2 ^ d := by
  induction l generalizing ds with
  | nil => simp [exitStage]
  | cons it l ih =>
    obtain ⟨hit, hl⟩ := List.forall_mem_cons.1 h
    obtain ⟨h0, hlt⟩ := sampleInRange_exitSample hit m ds
    refine List.forall_mem_cons.2 ⟨?_, ih hl _⟩
    rw [Int.toNat_lt h0]
    exact_mod_cast hlt

theorem channelOf_lt {n : Nat} {os : List (Chan × Nat)} (h : ∀ o ∈ os, o.2 < n) (ch : Chan) :
    ∀ v ∈ channelOf ch os, v < n := by
  intro v hv
  obtain ⟨o, ho, hov⟩ := List.mem_filterMap.1 hv
  obtain ⟨-, rfl⟩ := Option.ite_none_right_eq_some.1 hov |>.imp_right Option.some.inj
  exact h o ho

/-- The constant alpha is in range (R122). -/
theorem sampleInRange_aconst (t : Act) {j : Job} (hs : j.s ≤ 16) : SampleInRange j.dout (aconst t j) := by
  unfold aconst
  split
  · rename_i hc
    simp only [Bool.and_eq_true, decide_eq_true_eq] at hc
    rw [dout_of_unpack hc.1]
    exact sampleInRange_asr (sampleInRange_sat 16 _) hs
  · have hpos : (0 : Int) < 2 ^ j.dout := by positivity
    exact ⟨by omega, by omega⟩

/-- The alpha of a pixel fits the output depth on each of its paths (R122, R123). -/
theorem alphaItem_fitsAt (t : Act) {j : Job} (hs : j.s ≤ 16) (ain : Int) : (alphaItem t j ain).FitsAt j.dout := by
  have hwork := dout_le_dw j
  have hdext := (fmtDepth_bounds j.fmt).2
  unfold alphaItem
  split
  · exact ⟨rfl, fun _ => sampleInRange_aconst t hs⟩
  · split
    · exact ⟨rfl, fun hle => le_antisymm hwork hle ▸ sampleInRange_toWorking j ain⟩
    · have h16 {d : Nat} (hd : d ≤ 16) (x : Int) (hle : 16 ≤ d) : SampleInRange d (sat 16 x) :=
        le_antisymm hle hd ▸ sampleInRange_sat 16 x
      cases hdir : j.dir with
      | pack =>
        rw [dout_of_pack hdir]
        exact ⟨rfl, h16 hdext _⟩
      | unpack =>
        rw [dout_of_unpack hdir]
        exact ⟨rfl, h16 hs _⟩

theorem pixelItems_fitAt (t : Act) {j : Job} (hs : j.s ≤ 16) (r : Nat) {b : Rows} (hb : RowsInRange j.dw b)
    (ain : List Int) (x : Nat) : ∀ it ∈ pixelItems t j r b ain x, it.FitsAt j.dout := by
  obtain ⟨h0, h1, h2⟩ := (rowsInRange_iff _ _).1 hb
  have hcolour (ch : Chan) {l : List Int} (hl : ∀ v ∈ l, SampleInRange j.dw v) (i : Nat) :
      Item.FitsAt j.dout ⟨ch, nth l i, j.dw, j.dout⟩ :=
    ⟨rfl, fun hle => le_antisymm (dout_le_dw j) hle ▸ sampleInRange_nth hl i⟩
  unfold pixelItems
  split
  · refine List.forall_mem_cons.2 ⟨hcolour _ h0 _, ?_⟩
    split
    · simp [hcolour _ h1, hcolour _ h2]
    · simp
  · refine List.forall_mem_append.2 ⟨by simp [hcolour _ h0, hcolour _ h1, hcolour _ h2], ?_⟩
    split
    · simp [alphaItem_fitsAt t hs]
    · simp

/-- The exit stage of a row answers samples of the output depth (R111, R121, R123). -/
theorem inRange_exitRow (t : Act) {j : Job} (hs : j.s ≤ 16) (r : Nat) {b : Rows} (hb : RowsInRange j.dw b)
    (ain : List Int) (ds : Draws) : (exitRow t j r b ain ds).1.inRange j.dout := by
  have hitems : ∀ it ∈ (List.range j.w).flatMap (pixelItems t j r b ain), it.FitsAt j.dout := by
    simp only [List.mem_flatMap]
    rintro it ⟨x, -, hx⟩
    exact pixelItems_fitAt t hs r hb ain x it hx
  have hout := channelOf_lt (exitStage_lt hitems j.mode ds)
  simp only [Arrays.inRange, List.forall_mem_cons, List.not_mem_nil, false_implies, implies_true, and_true]
  exact ⟨hout _, hout _, hout _, hout _⟩

/-! ### Fill -/

theorem fillValue_lt (j : Job) (luma : Bool) : fillValue j luma < 2 ^ j.dext := by
  have h8 : 8 ≤ j.dext := (fmtDepth_bounds j.fmt).1
  have hbase : (if luma then 16 else 128) < 2 ^ 8 := by cases luma <;> decide
  unfold fillValue
  split
  · calc (if luma then 16 else 128) * 2 ^ (j.dext - 8) < 2 ^ 8 * 2 ^ (j.dext - 8) :=
          Nat.mul_lt_mul_of_pos_right hbase (by positivity)
      _ = 2 ^ j.dext := by rw [← pow_add, Nat.add_sub_cancel' h8]
  · positivity

/-- The fill step adds samples of the external depth (R133). -/
theorem inRange_fillRow {j : Job} (r : Nat) {o : Arrays} (h : o.inRange j.dext) : (fillRow j r o).inRange j.dext := by
  have happend {l : List Nat} (hl : ∀ v ∈ l, v < 2 ^ j.dext) (n : Nat) {c : Nat} (hc : c < 2 ^ j.dext) :
      ∀ v ∈ l ++ List.replicate n c, v < 2 ^ j.dext :=
    List.forall_mem_append.2 ⟨hl, fun v hv => List.eq_of_mem_replicate hv ▸ hc⟩
  simp only [Arrays.inRange, List.forall_mem_cons, List.not_mem_nil, false_implies, implies_true, and_true] at h ⊢
  obtain ⟨h0, h1, h2, ha⟩ := h
  refine ⟨happend h0 _ (fillValue_lt j _), happend h1 _ (fillValue_lt j _), happend h2 _ (fillValue_lt j _), ?_⟩
  simp only [fillRow]
  split
  · exact happend ha _ (by positivity)
  · exact ha

/-! ### The obligation -/

/-- The samples a row's exit stage answers are in range, from whatever rows it entered with. -/
theorem inRange_exitRow_convert {t : Cmt} {d : Dir} {f : Fmt} {q : ReqFields} {c : ReqRegs} {j : Job}
    (hj : prepare t d f q c = .ok j) (act : Act) (k : C709Record) (r : Nat) (a : Rows) (ain : List Int) (ds : Draws) :
    (exitRow act j r (convert k j (enterRows j a)) ain ds).1.inRange j.dout := by
  obtain ⟨-, -, -, -, -, hs, -⟩ := prepare_eq_ok hj
  exact inRange_exitRow act (decodeDepth_le hs) r (rowsInRange_convert k (rowsInRange_enterRows j a)) ain ds

/-- Settles O49: the rows enter in range, `Convert` and the exit stage keep them there, and so does the fill of a PACK row. -/
theorem outputSamplesInRange : Obligations.OutputSamplesInRange := by
  constructor
  · intro f q c s j r o ds hj hout
    obtain ⟨-, hdir, -⟩ := prepare_eq_ok hj
    obtain ⟨⟨a, ain⟩, -, hx⟩ := Option.map_eq_some_iff.1 hout
    obtain ⟨rfl, -⟩ := Prod.mk.inj hx
    exact inRange_fillRow r (dout_of_pack hdir ▸ inRange_exitRow_convert hj s.act s.cmt.c709 r a ain s.draws)
  · intro f q c s j r a hj _
    obtain ⟨-, hdir, -⟩ := prepare_eq_ok hj
    exact dout_of_unpack hdir ▸ inRange_exitRow_convert hj s.act s.cmt.c709 r (intRows a) (a.a.map Int.ofNat) s.draws

end Sys2Proof.Machine
end

section
/-!
PROOFS. The worked examples of the colour matrix with the default table (41_color_matrix_transform.md R90 to R93); O53.
-/

namespace Sys2Proof.Machine

/-- Settles O53: every example is a closed computation of the model. -/
theorem colourMatrixWorkedExamples : Obligations.ColourMatrixWorkedExamples := by
  refine ⟨?presat8, ?presat10, ?y2rRed, ?y2r8, ?y2rVs, ?y2r16, ?r2yWhite, ?r2yRed, ?r2y709, ?r2yVs, ?c709At8, ?c709At10⟩ <;>
    decide

end Sys2Proof.Machine
end

section
/-!
PROOFS. The chroma resampler: what each of its three operations answers at a column, and what holds between the up-samplers
and the down-sampler (42_chroma_resampler.md R100 to R102, R105); O54.
-/

namespace Sys2Proof.Machine

/-! ### The operations at a column -/

theorem asr_one (a : Int) : asr a 1 = a / 2 := rfl

/-- Column `2k` takes the sample itself (R100). -/
theorem nth_crsUp_even (c : List Int) {n k : Nat} (hk : k < n) : nth (crsUp c n) (2 * k) = nth c k := by
  rw [crsUp, nth_tabulate _ (by omega)]
  simp

/-- Column `2k + 1` takes the truncated average with the next sample (R100). -/
theorem nth_crsUp_odd (c : List Int) {n k : Nat} (hk : k + 1 < n) :
    nth (crsUp c n) (2 * k + 1) = (nth c k + nth c (k + 1)) / 2 := by
  have hcol : (2 * k + 1) / 2 = k := by omega
  have hodd : (2 * k + 1) % 2 = 1 := by omega
  rw [crsUp, nth_tabulate _ (by omega)]
  simp [hcol, hodd, hk, asr_one]

/-- The last column repeats the last sample (R100). -/
theorem nth_crsUp_last (c : List Int) (n : Nat) : nth (crsUp c (n + 1)) (2 * n + 1) = nth c n := by
  have hcol : (2 * n + 1) / 2 = n := by omega
  have hodd : (2 * n + 1) % 2 = 1 := by omega
  rw [crsUp, nth_tabulate _ (by omega)]
  simp [hcol, hodd]

/-- Both columns of a pair take the pair's sample (R101). -/
theorem nth_crsRep (c : List Int) {n x : Nat} (hx : x < 2 * n) : nth (crsRep c n) x = nth c (x / 2) := by
  rw [crsRep, nth_tabulate _ hx]

/-- A pair's sample is the rounded average of its columns (R102). -/
theorem nth_crsDown (c : List Int) {n k : Nat} (hk : k < n) :
    nth (crsDown c n) k = (nth c (2 * k) + nth c (2 * k + 1) + 1) / 2 := by
  rw [crsDown, nth_tabulate _ hk, asr_one]

/-- A row is the array of its own elements (R8). -/
theorem tabulate_nth {c : List Int} {n : Nat} (h : c.length = n) : tabulate n (nth c) = c := by
  refine List.ext_getElem (by simp [h]) fun i _ hi => ?_
  simp [tabulate, nth, hi]

/-! ### Down after up -/

/-- The rounded average of a sample with itself is the sample (R105). -/
theorem crsDown_crsRep {c : List Int} {n : Nat} (h : c.length = n) : crsDown (crsRep c n) n = c := by
  refine (tabulate_congr fun k hk => ?_).trans (tabulate_nth h)
  have heven : 2 * k / 2 = k := by omega
  have hodd : (2 * k + 1) / 2 = k := by omega
  rw [nth_crsRep c (by omega), nth_crsRep c (by omega), heven, hodd, asr_one]
  omega

/-- The last sample comes back (R105). -/
theorem nth_crsDown_crsUp_last (c : List Int) (n : Nat) : nth (crsDown (crsUp c (n + 1)) (n + 1)) n = nth c n := by
  rw [nth_crsDown _ (Nat.lt_succ_self n), nth_crsUp_even c (Nat.lt_succ_self n), nth_crsUp_last]
  omega

/-- Any other sample moves toward its neighbour (R105). -/
theorem nth_crsDown_crsUp (c : List Int) {n k : Nat} (hk : k + 1 < n) :
    nth (crsDown (crsUp c n) n) k = (nth c k + (nth c k + nth c (k + 1)) / 2 + 1) / 2 := by
  have hlt : k < n := by omega
  rw [nth_crsDown _ hlt, nth_crsUp_even c hlt, nth_crsUp_odd c hk]

/-- The average with the truncated midpoint gives the sample back where its neighbour differs by at most one, and lies
between the two everywhere (R105). -/
theorem average_midpoint (x y : Int) :
    (|y - x| ≤ 1 → (x + (x + y) / 2 + 1) / 2 = x)
      ∧ min x y ≤ (x + (x + y) / 2 + 1) / 2 ∧ (x + (x + y) / 2 + 1) / 2 ≤ max x y := by
  refine ⟨fun h => ?_, by omega, by omega⟩
  rw [abs_le] at h
  omega

/-- Settles O54, from the down-sampler after each up-sampler, with the last sample apart. -/
theorem downsamplingAfterUpsampling : Obligations.DownsamplingAfterUpsampling := by
  intro c n hc hn
  obtain ⟨m, rfl⟩ := Nat.exists_eq_add_of_le' hn
  refine ⟨crsDown_crsRep hc, nth_crsDown_crsUp_last c m, fun i hi => ?_⟩
  have hr := nth_crsDown_crsUp c hi
  exact ⟨hr, hr ▸ average_midpoint (nth c i) (nth c (i + 1))⟩

end Sys2Proof.Machine
end

section
/-!
PROOFS. A row of a request that copies: between equal structures, without correction, companding or narrowing, each sample
enters the working depth and leaves as it is (42_chroma_resampler.md R104; 43_bit_depth_rescaler.md R110, R114, R119 to R123).
-/

namespace Sys2Proof.Machine

/-! ### The exit stage keeps samples -/

/-- Samples that are not narrowed leave the exit stage as they are, and draw nothing (R114 item 6, R121). -/
theorem exitStage_of_kept {l : List Item} (h : ∀ it ∈ l, it.s ≤ it.t) (m : DitherMode) (ds : Draws) :
    exitStage m l ds = (l.map fun it => (it.ch, it.v.toNat), ds) := by
  induction l with
  | nil => rfl
  | cons it l ih =>
    obtain ⟨hit, hl⟩ := List.forall_mem_cons.1 h
    have hkept : exitSample m it ds = (it.v, ds) := if_pos hit
    simp only [exitStage, hkept, ih hl, List.map_cons]

/-- The samples of one channel that a run of items carries. -/
def samplesOf (ch : Chan) (l : List Item) : List Nat := l.filterMap fun it => if it.ch = ch then some it.v.toNat else none

@[simp] theorem samplesOf_nil (ch : Chan) : samplesOf ch [] = [] := rfl

@[simp] theorem samplesOf_cons (ch : Chan) (it : Item) (l : List Item) :
    samplesOf ch (it :: l) = if it.ch = ch then it.v.toNat :: samplesOf ch l else samplesOf ch l := by
  simp only [samplesOf, List.filterMap_cons]
  split_ifs <;> rfl

/-- A row whose every item is kept answers, in each channel, the samples of its pixels in turn. -/
theorem channelOf_exitStage_of_kept {n : Nat} {g : Nat → List Item} (h : ∀ x < n, ∀ it ∈ g x, it.s ≤ it.t)
    (m : DitherMode) (ds : Draws) (ch : Chan) :
    channelOf ch (exitStage m ((List.range n).flatMap g) ds).1 = (List.range n).flatMap fun x => samplesOf ch (g x) := by
  have hrow : ∀ it ∈ (List.range n).flatMap g, it.s ≤ it.t := by
    intro it hit
    obtain ⟨x, hx, hit⟩ := List.mem_flatMap.1 hit
    exact h x (List.mem_range.1 hx) it hit
  simp only [exitStage_of_kept hrow, channelOf, samplesOf, List.filterMap_map, List.filterMap_flatMap]
  rfl

/-- One sample a pixel makes an array of as many elements as pixels. -/
theorem flatMap_range_singleton {α : Type} (n : Nat) (f : Nat → α) :
    ((List.range n).flatMap fun x => [f x]) = tabulate n f :=
  List.map_eq_flatMap.symm

/-- One sample at each even pixel makes an array of half as many elements (R114 item 4). -/
theorem flatMap_range_even {α : Type} (n : Nat) (f : Nat → α) :
    ((List.range n).flatMap fun x => if x % 2 = 0 then [f (x / 2)] else []) = tabulate ((n + 1) / 2) f := by
  induction n with
  | zero => rfl
  | succ n ih =>
    rw [List.range_succ, List.flatMap_append, ih]
    rcases Nat.mod_two_eq_zero_or_one n with heven | hodd
    · have hlen : (n + 1 + 1) / 2 = (n + 1) / 2 + 1 := by omega
      have hcol : n / 2 = (n + 1) / 2 := by omega
      simp [tabulate, heven, hlen, hcol, List.range_succ]
    · have hlen : (n + 1 + 1) / 2 = (n + 1) / 2 := by omega
      simp [hodd, hlen]

/-! ### Requests that copy -/

/-- A request between equal structures, without correction or companding, and without narrowing (R104, R121). -/
structure Job.Copies (j : Job) : Prop where
  inner : j.inner = j.outer
  outer : j.outer = j.fam
  correction : j.q.c709 = false
  companding : j.q.acomp = false
  depth : j.dw = j.dout

/-- A PACK request copies where its family is the layout's structure and its samples are not deeper. -/
theorem copies_of_pack {j : Job} (hdir : j.dir = .pack) (hfam : j.fam = j.kind) (hcor : j.q.c709 = false)
    (hcomp : j.q.acomp = false) (hs : j.s ≤ j.dext) : j.Copies where
  inner := by simpa only [Job.inner, Job.outer, hdir] using hfam
  outer := by simpa only [Job.outer, hdir] using hfam.symm
  correction := hcor
  companding := hcomp
  depth := by rw [dout_of_pack hdir, Job.dw, max_eq_right hs]

/-- An UNPACK request copies where its layout's structure is the family and its fields are not deeper. -/
theorem copies_of_unpack {j : Job} (hdir : j.dir = .unpack) (hfam : j.fam = j.kind) (hcor : j.q.c709 = false)
    (hcomp : j.q.acomp = false) (hs : j.dext ≤ j.s) : j.Copies where
  inner := by simpa only [Job.inner, Job.outer, hdir] using hfam.symm
  outer := by simp only [Job.outer, hdir]
  correction := hcor
  companding := hcomp
  depth := by rw [dout_of_unpack hdir, Job.dw, max_eq_left hs]

/-- No step of `Convert` applies between equal structures without correction (R104, R203). -/
theorem convert_of_copies {j : Job} (h : j.Copies) (k : C709Record) (a : Rows) : convert k j a = a := by
  have hcorrect : convertCorrect k j a = a := by simp [convertCorrect, h.correction]
  have hup : convertUp j a = a := by
    refine if_neg ?_
    rw [h.inner]
    cases j.outer <;> decide
  have hmatrix : convertMatrix j a = a := by simp [convertMatrix, h.inner]
  have hdown : convertDown j a = a := by
    refine if_neg ?_
    rw [h.inner]
    cases j.outer <;> decide
  rw [convert, hcorrect, hup, hmatrix, hdown]

theorem alphaIn_eq (j : Job) : j.alphaIn = decide (j.inner = .rgba) := by
  unfold Job.alphaIn Job.inner
  cases j.dir <;> rfl

theorem alphaOut_eq (j : Job) : j.alphaOut = decide (j.outer = .rgba) := by
  unfold Job.alphaOut Job.outer
  cases j.dir <;> rfl

/-! ### Entering the working depth -/

theorem sat_of_sampleInRange {d : Nat} {v : Int} (h : SampleInRange d v) : sat d v = v := by
  obtain ⟨h0, hlt⟩ := h
  unfold sat clamp
  split
  · omega
  · split <;> omega

/-- Without narrowing, a sample enters clamped to its depth and shifted to the output's (R120). -/
theorem toWorking_of_copies {j : Job} (h : j.Copies) (v : Int) : toWorking j v = sat j.din v * 2 ^ (j.dout - j.din) := by
  rw [toWorking, widen, shl, h.depth]

theorem toWorking_zero (j : Job) : toWorking j 0 = 0 := by
  rw [toWorking, sat_of_sampleInRange (sampleInRange_zero _), widen, shl, zero_mul]

/-- A sample past the end of a row is 0, before and after it enters. -/
theorem nth_map_toWorking (j : Job) (l : List Int) (x : Nat) : nth (l.map (toWorking j)) x = toWorking j (nth l x) := by
  have hzero : (default : Int) = toWorking j default := (toWorking_zero j).symm
  unfold nth
  rw [hzero, List.getD_map, ← hzero]

/-- The row of a channel among loaded colour rows and a loaded alpha row: what `Arrays.chan` is for arrays. -/
def Rows.chan (a : Rows) (al : List Int) : Chan → List Int
  | .y | .r => a.c0
  | .u | .g => a.c1
  | .v | .b => a.c2
  | .a => al

theorem chan_enterRows (j : Job) (a : Rows) (al : List Int) (ch : Chan) :
    (enterRows j a).chan (al.map (toWorking j)) ch = (a.chan al ch).map (toWorking j) := by
  cases ch <;> rfl

/-- The channel has half the columns of luma in the structure (R43). -/
def Structure.halves (k : Structure) : Chan → Bool
  | .u | .v => k.halfChroma
  | .y | .r | .g | .b | .a => false

theorem ncols_eq_ite_halves (k : Structure) (w : Nat) (ch : Chan) : ncols k w ch = if k.halves ch then w / 2 else w := by
  cases ch <;> rfl

/-! ### The samples of a pixel -/

section
variable (t : Act) {j : Job} (r : Nat) (b : Rows) (ain : List Int) (x : Nat)

/-- Luma, and the chroma pair in an even column (R114 item 4). -/
theorem pixelItems_yuv422 (hout : j.outer = .yuv422) :
    pixelItems t j r b ain x = ⟨.y, nth b.c0 x, j.dw, j.dout⟩ ::
      if x % 2 = 0 then [⟨.u, nth b.c1 (x / 2), j.dw, j.dout⟩, ⟨.v, nth b.c2 (x / 2), j.dw, j.dout⟩] else [] := by
  simp [pixelItems, Job.chromaRowKept, hout, Structure.halfChroma, Structure.colours, Structure.isYuv]

theorem pixelItems_yuv444 (hout : j.outer = .yuv444) :
    pixelItems t j r b ain x
      = [⟨.y, nth b.c0 x, j.dw, j.dout⟩, ⟨.u, nth b.c1 x, j.dw, j.dout⟩, ⟨.v, nth b.c2 x, j.dw, j.dout⟩] := by
  simp [pixelItems, alphaOut_eq, hout, Structure.halfChroma, Structure.colours, Structure.isYuv]

theorem pixelItems_rgb (hout : j.outer = .rgb) :
    pixelItems t j r b ain x
      = [⟨.r, nth b.c0 x, j.dw, j.dout⟩, ⟨.g, nth b.c1 x, j.dw, j.dout⟩, ⟨.b, nth b.c2 x, j.dw, j.dout⟩] := by
  simp [pixelItems, alphaOut_eq, hout, Structure.halfChroma, Structure.colours, Structure.isYuv]

/-- The alpha of a request that copies is the input alpha at the working depth (R123). -/
theorem pixelItems_rgba (h : j.Copies) (hout : j.outer = .rgba) :
    pixelItems t j r b ain x
      = [⟨.r, nth b.c0 x, j.dw, j.dout⟩, ⟨.g, nth b.c1 x, j.dw, j.dout⟩, ⟨.b, nth b.c2 x, j.dw, j.dout⟩,
         ⟨.a, toWorking j (nth ain x), j.dw, j.dout⟩] := by
  have hin : j.alphaIn = true := by simp [alphaIn_eq, h.inner, hout]
  simp [pixelItems, alphaItem, alphaOut_eq, hin, h.companding, hout, Structure.halfChroma, Structure.colours,
    Structure.isYuv]

/-- No item of a request that copies is narrowed (R119, R121). -/
theorem pixelItems_kept (h : j.Copies) : ∀ it ∈ pixelItems t j r b ain x, it.s ≤ it.t := by
  have hout := h.outer
  unfold Job.fam at hout
  cases hfam : j.q.pfam <;> rw [hfam] at hout
  case yuv422 =>
    rw [pixelItems_yuv422 t r b ain x hout]
    split <;> simp [h.depth]
  case yuv444 => simp [pixelItems_yuv444 t r b ain x hout, h.depth]
  case rgb => simp [pixelItems_rgb t r b ain x hout, h.depth]
  case rgba => simp [pixelItems_rgba t r b ain x h hout, h.depth]

/-- The samples of a channel at a pixel of a request that copies: one, or where chroma is halved one at each even column
(R114), with the input alpha at the working depth (R123). -/
theorem samplesOf_pixelItems (h : j.Copies) {ch : Chan} (hch : ch ∈ familyChans j.q.pfam) :
    samplesOf ch (pixelItems t j r b ain x) =
      if j.fam.halves ch then if x % 2 = 0 then [(nth (b.chan (ain.map (toWorking j)) ch) (x / 2)).toNat] else []
      else [(nth (b.chan (ain.map (toWorking j)) ch) x).toNat] := by
  have hout := h.outer
  unfold Job.fam at *
  cases hfam : j.q.pfam <;> rw [hfam] at hch hout
  case yuv422 =>
    rw [pixelItems_yuv422 t r b ain x hout]
    by_cases hx : x % 2 = 0 <;> fin_cases hch <;>
      simp [hx, familyStructure, Structure.halves, Structure.halfChroma, Rows.chan]
  case yuv444 =>
    rw [pixelItems_yuv444 t r b ain x hout]
    fin_cases hch <;> simp [familyStructure, Structure.halves, Structure.halfChroma, Rows.chan]
  case rgb =>
    rw [pixelItems_rgb t r b ain x hout]
    fin_cases hch <;> simp [Structure.halves, Rows.chan]
  case rgba =>
    rw [pixelItems_rgba t r b ain x h hout]
    fin_cases hch <;> simp [Structure.halves, Rows.chan, nth_map_toWorking]

end

/-! ### The samples of a row -/

/-- The array of a channel of the family holds the exit stage's output samples of that channel. -/
theorem chan_exitRow (t : Act) {j : Job} (h : j.outer = j.fam) {ch : Chan} (hch : ch ∈ familyChans j.q.pfam) (r : Nat)
    (b : Rows) (ain : List Int) (ds : Draws) :
    (exitRow t j r b ain ds).1.chan ch
      = channelOf ch (exitStage j.mode ((List.range j.w).flatMap (pixelItems t j r b ain)) ds).1 := by
  unfold Job.fam at h
  cases hfam : j.q.pfam <;> rw [hfam] at hch h <;> fin_cases hch <;>
    simp [exitRow, Arrays.chan, h, familyStructure, Structure.colours, Structure.isYuv]

theorem getElem?_tabulate {α : Type} {n x : Nat} (f : Nat → α) (hx : x < n) : (tabulate n f)[x]? = some (f x) := by
  simp [tabulate, hx]

/-- The exit stage of a request that copies answers each sample of the working row as it is (R104, R121). -/
theorem getElem?_exitRow_of_copies (t : Act) {j : Job} (h : j.Copies) {ch : Chan} (hch : ch ∈ familyChans j.q.pfam)
    (r : Nat) (b : Rows) (ain : List Int) (ds : Draws) {x : Nat} (hx : x < ncols j.fam j.w ch) :
    ((exitRow t j r b ain ds).1.chan ch)[x]? = some (nth (b.chan (ain.map (toWorking j)) ch) x).toNat := by
  rw [chan_exitRow t h.outer hch, channelOf_exitStage_of_kept fun y _ => pixelItems_kept t r b ain y h]
  simp only [samplesOf_pixelItems t r b ain _ h hch]
  rw [ncols_eq_ite_halves] at hx
  cases hhalf : j.fam.halves ch <;> simp only [hhalf, if_true, Bool.false_eq_true, if_false] at hx ⊢
  · rw [flatMap_range_singleton, getElem?_tabulate _ hx]
  · rw [flatMap_range_even j.w fun i => (nth (b.chan (ain.map (toWorking j)) ch) i).toNat, getElem?_tabulate _ (by omega)]

/-- A row of a request that copies: each sample clamped to the input depth and shifted to the output depth (R104, R110). -/
theorem getElem?_row_of_copies (t : Act) (k : C709Record) {j : Job} (h : j.Copies) {ch : Chan}
    (hch : ch ∈ familyChans j.q.pfam) (r : Nat) (a : Rows) (al : List Int) (ds : Draws) {x : Nat}
    (hx : x < ncols j.fam j.w ch) {n : Nat} (hn : sat j.din (nth (a.chan al ch) x) = n) :
    ((exitRow t j r (convert k j (enterRows j a)) al ds).1.chan ch)[x]? = some (n * 2 ^ (j.dout - j.din)) := by
  rw [convert_of_copies h, getElem?_exitRow_of_copies t h hch r _ al ds hx, chan_enterRows, nth_map_toWorking,
    toWorking_of_copies h, hn]
  norm_cast

theorem nth_of_getElem? {l : List Nat} {x v : Nat} (h : l[x]? = some v) : nth l x = v := by
  simp [nth, List.getD, h]

end Sys2Proof.Machine
end

section
/-!
PROOFS. Between equal structures a request copies its samples: from memory to the arrays of a PACK row, and from the fields to
the arrays of an UNPACK row (20_memory.md R44; 42_chroma_resampler.md R104; 44_format_codecs_yuv.md R130, R133); O51.
-/

namespace Sys2Proof.Machine

/-! ### PACK: the samples in memory -/

theorem leValue_lt (l : List Byte) : leValue l < 256 ^ l.length := by
  induction l with
  | nil => decide
  | cons b l ih =>
    have hb := b.isLt
    rw [leValue, List.length_cons, pow_succ]
    omega

theorem bytesAt_lt (m : Memory) (a : Int) (n : Nat) : bytesAt m a n < 256 ^ n := by
  simpa only [bytesAt, tabulate_length] using leValue_lt (tabulate n fun i => loadByte m (a.toNat + i))

/-- A planar sample is one or two bytes (R42). -/
theorem planarBytes_lt (m : Memory) (j : Job) (a : Int) : bytesAt m a j.bps < 2 ^ 16 := by
  have hbps : j.bps ≤ 2 := by unfold Job.bps; split <;> decide
  exact (bytesAt_lt m a j.bps).trans_le (Nat.pow_le_pow_right (by decide) hbps)

/-- Clamping a loaded sample gives the sample the obligations speak of: 0 for a negative one (R44, R120). -/
theorem sat_planarSample (m : Memory) (j : Job) (ch : Chan) (r x : Nat) :
    sat j.s (planarSample m j ch r x) = clampedSample m j ch r x := by
  have hlt := planarBytes_lt m j (planeAddr j ch r x)
  have hpos : 0 < 2 ^ j.s := by positivity
  have hcast : (2 ^ j.s : Int) = (2 ^ j.s : Nat) := by norm_cast
  unfold planarSample clampedSample sext sat clamp
  dsimp only
  rw [hcast]
  generalize bytesAt m (planeAddr j ch r x) j.bps = raw at *
  generalize 2 ^ j.s = full at *
  cases j.q.psigned with
  | false =>
    simp only [Bool.false_eq_true, if_false, Bool.false_and]
    split_ifs <;> omega
  | true =>
    simp only [if_true, Bool.true_and, decide_eq_true_eq]
    split_ifs <;> omega

/-- A planar row that was loaded holds the samples of its bytes (R44). -/
theorem nth_of_loadRow {s : State} {j : Job} {r : Nat} {ch : Chan} {l : List Int} (h : loadRow s j r ch = some l) {x : Nat}
    (hx : x < ncols j.fam j.w ch) : nth l x = planarSample s.mem j ch r x := by
  have hrow := (allSome_eq_some_iff _ l).1 h
  have hlen : x < l.length := by
    have := congrArg List.length hrow
    rw [tabulate_length, List.length_map] at this
    omega
  have hload : loadPlanar s.platform s.mem j ch r x = some l[x] := by
    have hget := congrArg (·[x]?) hrow
    simpa [getElem?_tabulate _ hx, hlen] using hget
  obtain ⟨raw, hread, hval⟩ := Option.map_eq_some_iff.1 hload
  obtain ⟨-, rfl⟩ := (memRead_eq_some_iff _ _ _ _ _).1 hread
  rw [nth, List.getD_eq_getElem _ _ hlen, ← hval]
  rfl

/-- Each channel of the family is one of the rows that were loaded (R194 step 1). -/
theorem loadRow_of_loadRows {s : State} {j : Job} {r : Nat} {a : Rows} {al : List Int}
    (h : loadRows s j r = some (a, al)) {ch : Chan} (hch : ch ∈ familyChans j.q.pfam) :
    loadRow s j r ch = some (a.chan al ch) := by
  unfold loadRows at h
  dsimp only at h
  split at h
  case h_2 => cases h
  case h_1 c0 c1 c2 a' h0 h1 h2 ha =>
    cases h
    unfold Job.fam at *
    cases hfam : j.q.pfam <;> rw [hfam] at hch h0 h1 h2 ha <;> fin_cases hch <;> assumption

/-- The fill step of a row keeps what stands before it (R133). -/
theorem getElem?_chan_fillRow {j : Job} (r : Nat) {o : Arrays} {ch : Chan} {x v : Nat} (h : (o.chan ch)[x]? = some v) :
    ((fillRow j r o).chan ch)[x]? = some v := by
  have happend : ∃ fill, (fillRow j r o).chan ch = o.chan ch ++ fill := by
    cases ch with
    | a =>
      simp only [fillRow, Arrays.chan]
      split
      · exact ⟨_, rfl⟩
      · exact ⟨[], (List.append_nil _).symm⟩
    | _ => exact ⟨_, rfl⟩
  obtain ⟨fill, hfill⟩ := happend
  obtain ⟨hx, -⟩ := List.getElem?_eq_some_iff.1 h
  rw [hfill, List.getElem?_append_left hx, h]

/-! ### UNPACK: the fields of the row -/

theorem chan_lt_of_inRange {o : Arrays} {d : Nat} (h : o.inRange d) (ch : Chan) : ∀ v ∈ o.chan ch, v < 2 ^ d :=
  h _ (by cases ch <;> simp [Arrays.chan])

/-- A field in range is not changed by clamping (R120, R130). -/
theorem sat_field {j : Job} {a : Arrays} (h : a.inRange j.dext) (ch : Chan) (x : Nat) :
    sat j.dext (nth ((intRows a).chan (a.a.map Int.ofNat) ch) x) = (nth (a.chan ch) x : Nat) := by
  have hchan : (intRows a).chan (a.a.map Int.ofNat) ch = (a.chan ch).map Int.ofNat := by cases ch <;> rfl
  have hrange : ∀ v ∈ (a.chan ch).map Int.ofNat, SampleInRange j.dext v :=
    List.forall_mem_map.2 fun v hv => by
      have hlt := chan_lt_of_inRange h ch v hv
      exact ⟨Int.natCast_nonneg v, by simpa only [Int.ofNat_eq_natCast] using mod_cast hlt⟩
  rw [hchan, sat_of_sampleInRange (sampleInRange_nth hrange x)]
  exact List.getD_map ..

/-! ### The obligation -/

/-- Settles O51: what a row takes from memory or from its fields, entered, is what its arrays answer; fill stands after it. -/
theorem equalStructuresCopySamples : Obligations.EqualStructuresCopySamples := by
  constructor
  · intro f q c s j r o ds hj hout hfam hcor hcomp hs ch hch x hx
    obtain ⟨-, hdir, -, rfl, -⟩ := prepare_eq_ok hj
    obtain ⟨⟨a, al⟩, hload, hrow⟩ := Option.map_eq_some_iff.1 hout
    obtain ⟨rfl, -⟩ := Prod.mk.inj hrow
    have hdin : j.din = j.s := by simp only [Job.din, hdir]
    have hsample : sat j.din (nth (a.chan al ch) x) = clampedSample s.mem j ch r x := by
      rw [hdin, nth_of_loadRow (loadRow_of_loadRows hload hch) hx, sat_planarSample]
    have hget := getElem?_row_of_copies s.act s.cmt.c709 (copies_of_pack hdir hfam hcor hcomp hs) hch r a al s.draws hx hsample
    rw [dout_of_pack hdir, hdin] at hget
    exact nth_of_getElem? (getElem?_chan_fillRow r hget)
  · intro f q c s j r a hj hfam hcor hcomp hs hrange ch hch x hx
    obtain ⟨-, hdir, -, rfl, -⟩ := prepare_eq_ok hj
    have hdin : j.din = j.dext := by simp only [Job.din, hdir]
    have hget := getElem?_row_of_copies s.act s.cmt.c709 (copies_of_unpack hdir hfam hcor hcomp hs) hch r (intRows a)
      (a.a.map Int.ofNat) s.draws hx (hdin ▸ sat_field hrange ch x)
    rw [dout_of_unpack hdir, hdin] at hget
    exact nth_of_getElem? hget

end Sys2Proof.Machine
end

section
/-!
PROOFS. The single operations of the depth rescaler and of the dither source: what narrowing answers, and what a draw is in each
mode (43_bit_depth_rescaler.md R110 to R116, R125); O55, O56, O57.
-/

namespace Sys2Proof.Machine

/-! ### Saturation -/

theorem sat_of_nonpos (d : Nat) {x : Int} (h : x ≤ 0) : sat d x = 0 := by
  have hpos : (0 : Int) < 2 ^ d := by positivity
  unfold sat clamp
  split <;> [rfl; split <;> omega]

theorem sat_of_full_le {d : Nat} {x : Int} (h : 2 ^ d - 1 ≤ x) : sat d x = 2 ^ d - 1 := by
  have hpos : (0 : Int) < 2 ^ d := by positivity
  unfold sat clamp
  split <;> [omega; split <;> omega]

/-! ### Narrowing -/

/-- Narrowing after widening drops what the draw added (R125). -/
theorem narrow_widen {v : Int} {s t d : Nat} (hv : SampleInRange t v) (hd : d < 2 ^ (s - t)) :
    narrow (widen v t s) s t d = v := by
  have hd' : (d : Int) < 2 ^ (s - t) := by exact_mod_cast hd
  have hdrop : asr (widen v t s + d) (s - t) = v := by
    rw [asr, widen, shl, add_comm, Int.add_mul_ediv_right _ _ (by positivity),
      Int.ediv_eq_zero_of_lt (Int.natCast_nonneg d) hd', zero_add]
  rw [narrow, hdrop, sat_of_sampleInRange hv]

/-- The bias of the signed operation is a multiple of the step and cancels (R115). -/
theorem snarrow_eq_narrow {s t : Nat} (hts : t ≤ s) (v : Int) (d : Nat) : snarrow v s t d = narrow v s t d := by
  have hbias : signBias s = 2 ^ (t + 1) * 2 ^ (s - t) := by
    rw [signBias, shl, one_mul, ← pow_add]
    congr 1
    omega
  have hstep : (2 : Int) ^ (s - t) ≠ 0 := by positivity
  rw [snarrow, narrow, hbias, asr, asr, asr, add_right_comm, Int.add_mul_ediv_right _ _ hstep,
    Int.mul_ediv_cancel _ hstep, add_sub_cancel_right]

/-- Clamping to the input depth before narrowing does not show: a value below the range narrows to 0 and one above it to full
scale, for every draw (R116). -/
theorem narrow_sat {s t d : Nat} (hts : t ≤ s) (hd : d < 2 ^ (s - t)) (v : Int) :
    narrow (sat s v) s t d = narrow v s t d := by
  have hd' : (d : Int) < 2 ^ (s - t) := by exact_mod_cast hd
  have hpos : (0 : Int) < 2 ^ (s - t) := by positivity
  have hfull : (2 : Int) ^ s = 2 ^ t * 2 ^ (s - t) := by rw [← pow_add, Nat.add_sub_cancel' hts]
  have hbelow (u : Int) (hu : u ≤ 0) : narrow u s t d = 0 :=
    sat_of_nonpos t (Int.lt_add_one_iff.1 (Int.ediv_lt_of_lt_mul hpos (by omega)))
  have habove (u : Int) (hu : 2 ^ s - 1 ≤ u) : narrow u s t d = 2 ^ t - 1 := by
    refine sat_of_full_le ((Int.le_ediv_iff_mul_le hpos).2 ?_)
    rw [sub_mul, ← hfull, one_mul]
    omega
  rcases lt_or_ge v 0 with hneg | hnonneg
  · rw [sat_of_nonpos s hneg.le, hbelow 0 le_rfl, hbelow v hneg.le]
  · rcases lt_or_ge v (2 ^ s) with hlt | hge
    · rw [sat_of_sampleInRange ⟨hnonneg, hlt⟩]
    · have hv : 2 ^ s - 1 ≤ v := by omega
      rw [sat_of_full_le hv, habove _ le_rfl, habove v hv]

/-- A draw in the declared range is less than a step of the output. -/
theorem lt_step_of_lt_draw {sh d : Nat} (hd : d < 2 ^ (sh - 1)) : d < 2 ^ sh :=
  hd.trans_le (Nat.pow_le_pow_right (by decide) (Nat.sub_le sh 1))

/-- Settles O56: a draw in range is part of what narrowing drops. -/
theorem narrowingUndoesWidening : Obligations.NarrowingUndoesWidening := by
  intro v s t d _ h0 hlt hd
  exact narrow_widen ⟨h0, hlt⟩ (lt_step_of_lt_draw hd)

/-- Settles O55: on each side the operation is narrowing of the value itself. -/
theorem signedNarrowingEquivalence : Obligations.SignedNarrowingEquivalence := by
  intro v s t d _ hts hd
  rw [narrow_sat hts.le (lt_step_of_lt_draw hd), snarrow_eq_narrow hts.le]

/-! ### The dither source -/

theorem draw_of_le_one (m : DitherMode) {sh : Nat} (h : sh ≤ 1) (ds : Draws) : draw m sh ds = (0, ds) := if_pos h

theorem draw_off (sh : Nat) (ds : Draws) : draw .off sh ds = (0, ds) := by
  unfold draw
  split <;> rfl

theorem draw_seeded {sh : Nat} (h : 2 ≤ sh) (ds : Draws) :
    draw .seeded sh ds = (seededValue (seededNext ds.dstate) sh, { ds with dstate := seededNext ds.dstate }) :=
  if_neg (by omega)

theorem draw_free {sh : Nat} (h : 2 ≤ sh) (ds : Draws) :
    draw .free sh ds = (Config.ditherSrc ds.ctr % 2 ^ (sh - 1), { ds with ctr := ds.ctr + 1 }) :=
  if_neg (by omega)

/-- The words wrap after the sum, so nothing is lost by wrapping the product before it. -/
theorem toNat_mul_add (w a c : Word) : (w * a + c).toNat = (w.toNat * a.toNat + c.toNat) % 2 ^ 32 := by
  rw [BitVec.toNat_add, BitVec.toNat_mul, Nat.mod_add_mod]

theorem seededNext_toNat (w : Word) : (seededNext w).toNat = (w.toNat * 1664525 + 1013904223) % 2 ^ 32 :=
  toNat_mul_add w 1664525#32 1013904223#32

/-- The value is the top `sh - 1` of the 32 bits, written with one subtraction (R113). -/
theorem seededValue_eq (w : Word) {sh : Nat} (h : 1 ≤ sh) : seededValue w sh = w.toNat / 2 ^ (33 - sh) := by
  have hexp : 32 - (sh - 1) = 33 - sh := by omega
  rw [seededValue, hexp]

theorem seededValue_lt (w : Word) (sh : Nat) : seededValue w sh < 2 ^ (sh - 1) := by
  refine Nat.div_lt_of_lt_mul (w.isLt.trans_le ?_)
  rw [← pow_add]
  exact Nat.pow_le_pow_right (by decide) (by omega)

/-- A draw is in the declared range in every mode (R112). -/
theorem draw_lt (m : DitherMode) (sh : Nat) (ds : Draws) : (draw m sh ds).1 < 2 ^ (sh - 1) := by
  have hpos : 0 < 2 ^ (sh - 1) := by positivity
  rcases Nat.lt_or_ge 1 sh with hsh | hsh
  · cases m with
    | seeded => rw [draw_seeded hsh]; exact seededValue_lt _ sh
    | free => rw [draw_free hsh]; exact Nat.mod_lt _ hpos
    | off => rw [draw_off]; exact hpos
  · rw [draw_of_le_one m hsh]; exact hpos

/-- Settles O57, from what a draw is in each mode. -/
theorem drawsStayInDeclaredRange : Obligations.DrawsStayInDeclaredRange := by
  intro m sh ds
  refine ⟨draw_lt m sh ds, ?none, ?seeded, ?free⟩
  case none =>
    rintro (hsh | rfl)
    · exact draw_of_le_one m hsh ds
    · exact draw_off sh ds
  case seeded =>
    rintro hsh - rfl w
    rw [draw_seeded hsh]
    exact ⟨by rw [seededValue_eq _ (by omega), seededNext_toNat], seededNext_toNat _⟩
  case free =>
    rintro rfl
    exact draw_dstate_of_ne (by decide) sh ds

end Sys2Proof.Machine
end

section
/-!
PROOFS. Draws in order: the state of the dither source after `k` draws of a mode, the value of the `k`-th draw, and the exit stage
over a list of samples that starts at the `k`-th draw (43_bit_depth_rescaler.md R111 to R114, R121).
-/

namespace Sys2Proof.Machine

/-! ### The `k`-th draw -/

/-- The dither source after `n` draws of a mode (R112, R113). -/
def Draws.after (ds : Draws) (m : DitherMode) (n : Nat) : Draws := match m with
  | .seeded => { ds with dstate := seededNext^[n] ds.dstate }
  | .free => { ds with ctr := ds.ctr + n }
  | .off => ds

/-- The value of the `k`-th draw of a mode, for a narrowing by `sh` bits (R112, R113). -/
def Draws.value (ds : Draws) (m : DitherMode) (k sh : Nat) : Nat := match m with
  | .seeded => (seededNext^[k + 1] ds.dstate).toNat / 2 ^ (33 - sh)
  | .free => Config.ditherSrc (ds.ctr + k) % 2 ^ (sh - 1)
  | .off => 0

/-- The draws that a narrowing by `sh` bits makes: none for one bit, or where the sample is kept (R112, R114). -/
def drawCount (sh : Nat) : Nat := if sh < 2 then 0 else 1

theorem drawCount_of_lt {sh : Nat} (h : sh < 2) : drawCount sh = 0 := if_pos h

theorem drawCount_of_le {sh : Nat} (h : 2 ≤ sh) : drawCount sh = 1 := if_neg (by omega)

theorem after_zero (ds : Draws) (m : DitherMode) : ds.after m 0 = ds := by cases m <;> rfl

/-- A range of one value leaves nothing to draw (R112). -/
theorem value_of_le_one (ds : Draws) (m : DitherMode) (k : Nat) {sh : Nat} (h : sh ≤ 1) : ds.value m k sh = 0 := by
  cases m with
  | seeded =>
    refine Nat.div_eq_of_lt ((BitVec.isLt _).trans_le ?_)
    exact Nat.pow_le_pow_right (by decide) (by omega)
  | free =>
    have hexp : sh - 1 = 0 := by omega
    simp [Draws.value, hexp, Nat.mod_one]
  | off => rfl

/-- After `k` draws, the next one is the `k`-th. -/
theorem draw_after (m : DitherMode) (sh : Nat) (ds : Draws) (k : Nat) :
    draw m sh (ds.after m k) = (ds.value m k sh, ds.after m (k + drawCount sh)) := by
  rcases Nat.lt_or_ge 1 sh with hsh | hsh
  · rw [drawCount_of_le hsh]
    cases m with
    | seeded =>
      simp only [draw_seeded hsh, Draws.after, Draws.value, seededValue_eq _ hsh.le, Function.iterate_succ_apply']
    | free => exact draw_free hsh _
    | off => exact draw_off sh _
  · rw [drawCount_of_lt (by omega), draw_of_le_one m hsh, value_of_le_one ds m k hsh, Nat.add_zero]

/-! ### The exit stage from the `k`-th draw -/

/-- A working value that leaves depth `s` for depth `t` with the `k`-th draw: kept where `t` is not smaller, else narrowed
(R111, R121). -/
def sampleOut (m : DitherMode) (ds : Draws) (v : Int) (s t k : Nat) : Nat :=
  if s ≤ t then v.toNat else (narrow v s t (ds.value m k (s - t))).toNat

theorem sampleOut_kept (m : DitherMode) (ds : Draws) (v : Int) {s t : Nat} (h : s ≤ t) (k : Nat) :
    sampleOut m ds v s t k = v.toNat := if_pos h

/-- The draws of one sample (R114 items 6 and 7). -/
def Item.draws (it : Item) : Nat := drawCount (it.s - it.t)

/-- The draws of a list of samples. -/
def drawsOf (l : List Item) : Nat := (l.map Item.draws).sum

@[simp] theorem drawsOf_nil : drawsOf [] = 0 := rfl

@[simp] theorem drawsOf_cons (it : Item) (l : List Item) : drawsOf (it :: l) = it.draws + drawsOf l := List.sum_cons

@[simp] theorem exitStage_nil (m : DitherMode) (ds : Draws) : exitStage m [] ds = ([], ds) := rfl

/-- The first sample takes the `k`-th draw, and the others go on where its draws end (R114). -/
theorem exitStage_cons_after (m : DitherMode) (it : Item) (l : List Item) (ds : Draws) (k : Nat) :
    exitStage m (it :: l) (ds.after m k)
      = ((it.ch, sampleOut m ds it.v it.s it.t k) :: (exitStage m l (ds.after m (k + it.draws))).1,
          (exitStage m l (ds.after m (k + it.draws))).2) := by
  rcases exitSample_cases m it (ds.after m k) with ⟨hle, h⟩ | ⟨hlt, h⟩
  · have hdraws : it.draws = 0 := drawCount_of_lt (by omega)
    simp only [exitStage, h, sampleOut_kept m ds it.v hle k, hdraws, Nat.add_zero]
  · simp only [exitStage, h, draw_after, sampleOut, Nat.not_le.2 hlt, if_false, Item.draws]

/-- The exit stage makes the draws of its samples and no other (R114). -/
theorem exitStage_after_snd (m : DitherMode) (l : List Item) (ds : Draws) (k : Nat) :
    (exitStage m l (ds.after m k)).2 = ds.after m (k + drawsOf l) := by
  induction l generalizing k with
  | nil => rfl
  | cons it l ih => rw [exitStage_cons_after, ih, drawsOf_cons, Nat.add_assoc]

/-- Where `before x` counts the draws of the groups before group `x`, group `x` leaves from draw `before x` on (R114). -/
theorem exitStage_groups (m : DitherMode) (ds : Draws) {g : Nat → List Item} {before : Nat → Nat} (hzero : before 0 = 0)
    (hsucc : ∀ x, before (x + 1) = before x + drawsOf (g x)) (n : Nat) :
    exitStage m ((List.range n).flatMap g) ds
      = ((List.range n).flatMap fun x => (exitStage m (g x) (ds.after m (before x))).1, ds.after m (before n)) := by
  induction n with
  | zero => rw [hzero, after_zero]; rfl
  | succ n ih =>
    simp only [List.range_succ, List.flatMap_append, List.flatMap_singleton, exitStage_append, ih, exitStage_after_snd, hsucc]

@[simp] theorem channelOf_nil (ch : Chan) : channelOf ch [] = [] := rfl

@[simp] theorem channelOf_cons (ch : Chan) (o : Chan × Nat) (os : List (Chan × Nat)) :
    channelOf ch (o :: os) = if o.1 = ch then o.2 :: channelOf ch os else channelOf ch os := by
  simp only [channelOf, List.filterMap_cons]
  split_ifs <;> rfl

theorem channelOf_flatMap (ch : Chan) (l : List Nat) (g : Nat → List (Chan × Nat)) :
    channelOf ch (l.flatMap g) = l.flatMap fun x => channelOf ch (g x) :=
  List.filterMap_flatMap ..

end Sys2Proof.Machine
end

section
/-!
PROOFS. The samples of a row after its exit stage, each with its own draw: the draws before a pixel, and the array of each channel
(43_bit_depth_rescaler.md R114, R117, R118, R121 to R123; 42_chroma_resampler.md R103; 46_row_driver.md R206); O48.
-/

namespace Sys2Proof.Machine

/-! ### The alpha of a pixel -/

/-- The depth that an input alpha leaves from: 16 after the curve, else the working depth (R123). -/
def Job.alphaDepth (j : Job) : Nat := if j.q.acomp then 16 else j.dw

/-- An input alpha before its depth change: a fourth colour where it is linear, decompanded on PACK, companded on UNPACK
(R117, R118, R123). -/
def alphaSource (t : Act) (j : Job) (a : Int) : Int :=
  if !j.q.acomp then toWorking j a
  else if j.dir = .pack then actDecomp t (widen (sat j.s a) j.s 16)
  else actComp t (widen a j.dext 16)

theorem alphaItem_of_input (t : Act) {j : Job} (h : j.alphaIn = true) (a : Int) :
    alphaItem t j a = ⟨.a, alphaSource t j a, j.alphaDepth, j.dout⟩ := by
  unfold alphaItem alphaSource Job.alphaDepth Job.dout
  cases j.q.acomp <;> cases j.dir <;> simp [h]

theorem alphaItem_of_constant (t : Act) {j : Job} (h : j.alphaIn = false) (a : Int) :
    alphaItem t j a = ⟨.a, aconst t j, j.dout, j.dout⟩ := by
  simp [alphaItem, h]

/-! ### The draws before a pixel -/

/-- The chroma samples of each channel that an even column of row `r` has in a structure of halved chroma (R103). -/
def Job.chromaKept (j : Job) (r : Nat) : Nat := if j.outer ≠ .yuv420 ∨ r % 2 = 1 then 1 else 0

/-- The draws of one colour sample. -/
def Job.colourDraws (j : Job) : Nat := drawCount (j.dw - j.dout)

/-- The draws of the alpha of one pixel: none for a constant (R122). -/
def Job.alphaDraws (j : Job) : Nat :=
  if j.alphaOut = true ∧ j.alphaIn = true ∧ 2 ≤ j.alphaDepth - j.dout then 1 else 0

/-- The draws of row `r` before its pixel `x` (R114). -/
def Job.drawsBefore (j : Job) (r x : Nat) : Nat :=
  if j.outer.halfChroma then j.colourDraws * (x + 2 * j.chromaKept r * ((x + 1) / 2))
  else (3 * j.colourDraws + j.alphaDraws) * x

theorem chromaRowKept_iff (j : Job) (r : Nat) : j.chromaRowKept r = true ↔ j.chromaKept r = 1 := by
  simp [Job.chromaRowKept, Job.chromaKept, vdecKeeps, or_iff_not_imp_left]

theorem chromaKept_cases (j : Job) (r : Nat) : j.chromaKept r = 0 ∨ j.chromaKept r = 1 :=
  (ite_eq_or_eq _ 1 0).symm

theorem draws_alphaItem (t : Act) {j : Job} (hout : j.alphaOut = true) (a : Int) :
    (alphaItem t j a).draws = j.alphaDraws := by
  cases hin : j.alphaIn with
  | false => simp [alphaItem_of_constant t hin, Item.draws, drawCount, Job.alphaDraws, hin]
  | true =>
    simp only [alphaItem_of_input t hin, Item.draws, drawCount, Job.alphaDraws, hout, hin, true_and]
    split_ifs <;> omega

section
variable (t : Act) (j : Job) (r : Nat) (b : Rows) (ain : List Int) (ds : Draws) (x : Nat)

/-- A colour sample of a row before its depth change. -/
def Job.colourItem (j : Job) (ch : Chan) (v : Int) : Item := ⟨ch, v, j.dw, j.dout⟩

@[simp] theorem draws_colourItem (ch : Chan) (v : Int) : (j.colourItem ch v).draws = j.colourDraws := rfl

theorem colours_of_halfChroma {k : Structure} (h : k.halfChroma = true) : k.colours = (.y, .u, .v) := by
  cases k with
  | yuv422 | yuv420 => rfl
  | yuv444 | rgb | rgba => cases h

theorem colours_cases (k : Structure) : k.colours = (.y, .u, .v) ∨ k.colours = (.r, .g, .b) := ite_eq_or_eq ..

theorem halfChroma_of_alphaOut {j : Job} (h : j.alphaOut = true) : j.outer.halfChroma = false := by
  rw [alphaOut_eq, decide_eq_true_eq] at h
  rw [h]
  rfl

/-- Luma, and at an even pixel the chroma pair where the row keeps it (R114 item 4, R103). -/
theorem pixelItems_of_halfChroma (h : j.outer.halfChroma = true) :
    pixelItems t j r b ain x = j.colourItem .y (nth b.c0 x) ::
      if x % 2 = 0 ∧ j.chromaKept r = 1 then
        [j.colourItem .u (nth b.c1 (x / 2)), j.colourItem .v (nth b.c2 (x / 2))] else [] := by
  simp only [pixelItems, h, if_true, colours_of_halfChroma h, ← chromaRowKept_iff, Bool.and_eq_true, decide_eq_true_eq]
  rfl

/-- The three colours and the alpha (R114 items 3 and 5). -/
theorem pixelItems_of_fullChroma (h : j.outer.halfChroma = false) :
    pixelItems t j r b ain x = j.colourItem j.outer.colours.1 (nth b.c0 x) ::
      j.colourItem j.outer.colours.2.1 (nth b.c1 x) :: j.colourItem j.outer.colours.2.2 (nth b.c2 x) ::
      if j.alphaOut then [alphaItem t j (nth ain x)] else [] := by
  simp only [pixelItems, h, Bool.false_eq_true, if_false]
  rfl

/-- The draws before the next pixel are those before this one and its own (R114). -/
theorem drawsBefore_succ : j.drawsBefore r (x + 1) = j.drawsBefore r x + drawsOf (pixelItems t j r b ain x) := by
  cases hhalf : j.outer.halfChroma with
  | true =>
    have hbefore (y : Nat) : j.drawsBefore r y = j.colourDraws * (y + 2 * j.chromaKept r * ((y + 1) / 2)) := if_pos hhalf
    rw [hbefore, hbefore, pixelItems_of_halfChroma t j r b ain x hhalf, drawsOf_cons, draws_colourItem]
    rcases chromaKept_cases j r with hk | hk
    · simp only [hk, Nat.zero_ne_one, and_false, if_false, drawsOf_nil]
      ring
    · rcases Nat.mod_two_eq_zero_or_one x with heven | hodd
      · have hpairs : (x + 1 + 1) / 2 = (x + 1) / 2 + 1 := by omega
        simp only [hk, heven, hpairs, and_self, if_true, drawsOf_cons, drawsOf_nil, draws_colourItem]
        ring
      · have hpairs : (x + 1 + 1) / 2 = (x + 1) / 2 := by omega
        simp only [hodd, hpairs, Nat.one_ne_zero, false_and, if_false, drawsOf_nil]
        ring
  | false =>
    have hbefore (y : Nat) : j.drawsBefore r y = (3 * j.colourDraws + j.alphaDraws) * y := if_neg (by simp [hhalf])
    have halpha : drawsOf (if j.alphaOut then [alphaItem t j (nth ain x)] else []) = j.alphaDraws := by
      cases hout : j.alphaOut with
      | true => simp [draws_alphaItem t hout]
      | false => simp [Job.alphaDraws, hout]
    rw [hbefore, hbefore, pixelItems_of_fullChroma t j r b ain x hhalf, drawsOf_cons, drawsOf_cons, drawsOf_cons, halpha]
    simp only [draws_colourItem]
    ring

theorem drawsBefore_zero : j.drawsBefore r 0 = 0 := by
  unfold Job.drawsBefore
  split <;> simp

/-! ### The exit stage of a row -/

/-- What the exit stage answers for pixel `x`, from the draw at its place (R114). -/
def exitPixel (t : Act) (j : Job) (r : Nat) (b : Rows) (ain : List Int) (ds : Draws) (x : Nat) : List (Chan × Nat) :=
  (exitStage j.mode (pixelItems t j r b ain x) (ds.after j.mode (j.drawsBefore r x))).1

/-- A row's exit stage is that of its pixels, each from the draw at its place. -/
theorem exitStage_row :
    exitStage j.mode ((List.range j.w).flatMap (pixelItems t j r b ain)) ds
      = ((List.range j.w).flatMap (exitPixel t j r b ain ds), ds.after j.mode (j.drawsBefore r j.w)) :=
  exitStage_groups j.mode ds (drawsBefore_zero j r) (drawsBefore_succ t j r b ain) j.w

/-- The row makes the draws of its pixels and no other (R114). -/
theorem exitRow_snd : (exitRow t j r b ain ds).2 = ds.after j.mode (j.drawsBefore r j.w) := by
  rw [exitRow, exitStage_row]

/-- The samples of a channel, pixel by pixel. -/
def rowChannel (t : Act) (j : Job) (r : Nat) (b : Rows) (ain : List Int) (ds : Draws) (ch : Chan) : List Nat :=
  (List.range j.w).flatMap fun x => channelOf ch (exitPixel t j r b ain ds x)

theorem exitRow_fst :
    (exitRow t j r b ain ds).1
      = ⟨rowChannel t j r b ain ds j.outer.colours.1, rowChannel t j r b ain ds j.outer.colours.2.1,
          rowChannel t j r b ain ds j.outer.colours.2.2, rowChannel t j r b ain ds .a⟩ := by
  simp only [exitRow, exitStage_row, channelOf_flatMap, rowChannel]

/-- The colour value `v` after its depth change, with draw `k` (R121). -/
def Job.colourOut (j : Job) (ds : Draws) (v : Int) (k : Nat) : Nat := sampleOut j.mode ds v j.dw j.dout k

theorem exitPixel_of_halfChroma (h : j.outer.halfChroma = true) :
    exitPixel t j r b ain ds x = (.y, j.colourOut ds (nth b.c0 x) (j.drawsBefore r x)) ::
      if x % 2 = 0 ∧ j.chromaKept r = 1 then
        [(.u, j.colourOut ds (nth b.c1 (x / 2)) (j.drawsBefore r x + j.colourDraws)),
          (.v, j.colourOut ds (nth b.c2 (x / 2)) (j.drawsBefore r x + 2 * j.colourDraws))]
      else [] := by
  rw [exitPixel, pixelItems_of_halfChroma t j r b ain x h, exitStage_cons_after]
  split
  · simp only [exitStage_cons_after, exitStage_nil, draws_colourItem, Nat.add_assoc, ← Nat.two_mul]
    rfl
  · rfl

/-- The alpha of a pixel after its depth change: the constant draws nothing (R122, R206). -/
def alphaOutAt (t : Act) (j : Job) (r : Nat) (ain : List Int) (ds : Draws) (x : Nat) : Nat :=
  if j.alphaIn then
    sampleOut j.mode ds (alphaSource t j (nth ain x)) j.alphaDepth j.dout (j.drawsBefore r x + 3 * j.colourDraws)
  else (aconst t j).toNat

theorem exitPixel_of_fullChroma (h : j.outer.halfChroma = false) :
    exitPixel t j r b ain ds x = (j.outer.colours.1, j.colourOut ds (nth b.c0 x) (j.drawsBefore r x)) ::
      (j.outer.colours.2.1, j.colourOut ds (nth b.c1 x) (j.drawsBefore r x + j.colourDraws)) ::
      (j.outer.colours.2.2, j.colourOut ds (nth b.c2 x) (j.drawsBefore r x + 2 * j.colourDraws)) ::
      if j.alphaOut then [(.a, alphaOutAt t j r ain ds x)] else [] := by
  have hplace (k n : Nat) : k + n + n + n = k + 3 * n := by ring
  rw [exitPixel, pixelItems_of_fullChroma t j r b ain x h]
  simp only [exitStage_cons_after, draws_colourItem, hplace]
  rw [Nat.add_assoc, ← Nat.two_mul]
  cases j.alphaOut with
  | false => rfl
  | true =>
    cases hin : j.alphaIn with
    | true => simp [exitStage_cons_after, alphaItem_of_input t hin, alphaOutAt, hin, Job.colourItem, Job.colourOut]
    | false =>
      simp [exitStage_cons_after, alphaItem_of_constant t hin, alphaOutAt, hin, Job.colourItem, Job.colourOut,
        sampleOut_kept]

/-! ### The arrays of a row -/

/-- A channel with one sample a pixel. -/
theorem rowChannel_of_singleton {ch : Chan} {f : Nat → Nat} (h : ∀ x, channelOf ch (exitPixel t j r b ain ds x) = [f x]) :
    rowChannel t j r b ain ds ch = tabulate j.w f := by
  simp only [rowChannel, h, flatMap_range_singleton]

/-- A channel with one sample at each even pixel. -/
theorem rowChannel_of_even {ch : Chan} {f : Nat → Nat}
    (h : ∀ x, channelOf ch (exitPixel t j r b ain ds x) = if x % 2 = 0 then [f (x / 2)] else []) :
    rowChannel t j r b ain ds ch = tabulate ((j.w + 1) / 2) f := by
  simp only [rowChannel, h, flatMap_range_even]

/-- Each channel of a pixel with full chroma has one sample. -/
theorem channelOf_exitPixel_of_fullChroma (h : j.outer.halfChroma = false) :
    channelOf j.outer.colours.1 (exitPixel t j r b ain ds x) = [j.colourOut ds (nth b.c0 x) (j.drawsBefore r x)]
      ∧ channelOf j.outer.colours.2.1 (exitPixel t j r b ain ds x)
          = [j.colourOut ds (nth b.c1 x) (j.drawsBefore r x + j.colourDraws)]
      ∧ channelOf j.outer.colours.2.2 (exitPixel t j r b ain ds x)
          = [j.colourOut ds (nth b.c2 x) (j.drawsBefore r x + 2 * j.colourDraws)]
      ∧ (j.alphaOut = true → channelOf .a (exitPixel t j r b ain ds x) = [alphaOutAt t j r ain ds x]) := by
  rw [exitPixel_of_fullChroma t j r b ain ds x h]
  rcases colours_cases j.outer with hc | hc <;> rw [hc] <;> cases j.alphaOut <;> simp

/-- The first colour, or luma: one sample a pixel, with the pixel's first draw. -/
theorem c0_exitRow :
    (exitRow t j r b ain ds).1.c0 = tabulate j.w fun x => j.colourOut ds (nth b.c0 x) (j.drawsBefore r x) := by
  rw [exitRow_fst]
  refine rowChannel_of_singleton t j r b ain ds fun x => ?_
  cases hhalf : j.outer.halfChroma with
  | true =>
    rw [exitPixel_of_halfChroma t j r b ain ds x hhalf, colours_of_halfChroma hhalf]
    split <;> simp
  | false => exact (channelOf_exitPixel_of_fullChroma t j r b ain ds x hhalf).1

/-- Full chroma, or the second and third colours: one sample a pixel, with the draws after the first colour's. -/
theorem chroma_exitRow_of_fullChroma (h : j.outer.halfChroma = false) :
    (exitRow t j r b ain ds).1.c1
        = tabulate j.w (fun x => j.colourOut ds (nth b.c1 x) (j.drawsBefore r x + j.colourDraws))
      ∧ (exitRow t j r b ain ds).1.c2
        = tabulate j.w fun x => j.colourOut ds (nth b.c2 x) (j.drawsBefore r x + 2 * j.colourDraws) := by
  have hpixel (x : Nat) := channelOf_exitPixel_of_fullChroma t j r b ain ds x h
  rw [exitRow_fst]
  exact ⟨rowChannel_of_singleton t j r b ain ds fun x => (hpixel x).2.1,
    rowChannel_of_singleton t j r b ain ds fun x => (hpixel x).2.2.1⟩

/-- Halved chroma in a row that keeps it: sample `i` of each channel with the draws after the luma of pixel `2i`
(R114 item 4). -/
theorem chroma_exitRow_of_halfChroma (h : j.outer.halfChroma = true) (hkept : j.chromaKept r = 1) :
    (exitRow t j r b ain ds).1.c1
        = tabulate ((j.w + 1) / 2) (fun i => j.colourOut ds (nth b.c1 i) (j.drawsBefore r (2 * i) + j.colourDraws))
      ∧ (exitRow t j r b ain ds).1.c2
        = tabulate ((j.w + 1) / 2) fun i => j.colourOut ds (nth b.c2 i) (j.drawsBefore r (2 * i) + 2 * j.colourDraws) := by
  rw [exitRow_fst, colours_of_halfChroma h]
  constructor <;> refine rowChannel_of_even t j r b ain ds fun x => ?_ <;>
    rw [exitPixel_of_halfChroma t j r b ain ds x h] <;> rcases Nat.mod_two_eq_zero_or_one x with heven | hodd
  case left.inl | right.inl => simp [heven, hkept, Nat.mul_div_cancel' (Nat.dvd_of_mod_eq_zero heven)]
  case left.inr | right.inr => simp [hodd]

/-- An even row of a 4:2:0 output has no chroma (R103). -/
theorem chroma_exitRow_of_dropped (hkept : j.chromaKept r = 0) :
    (exitRow t j r b ain ds).1.c1 = [] ∧ (exitRow t j r b ain ds).1.c2 = [] := by
  have hhalf : j.outer.halfChroma = true := by
    have hout : j.outer = .yuv420 := by
      by_contra hne
      simp [Job.chromaKept, hne] at hkept
    rw [hout]
    rfl
  rw [exitRow_fst, colours_of_halfChroma hhalf]
  constructor <;> refine List.flatMap_eq_nil_iff.2 fun x _ => ?_ <;>
    simp [exitPixel_of_halfChroma t j r b ain ds x hhalf, hkept]

/-- Alpha: one sample a pixel, with the draw after the three colours' (R114 item 5). -/
theorem a_exitRow (h : j.alphaOut = true) :
    (exitRow t j r b ain ds).1.a = tabulate j.w (alphaOutAt t j r ain ds) := by
  rw [exitRow_fst]
  exact rowChannel_of_singleton t j r b ain ds fun x =>
    (channelOf_exitPixel_of_fullChroma t j r b ain ds x (halfChroma_of_alphaOut h)).2.2.2 h

end

end Sys2Proof.Machine
end

section
/-!
PROOFS. The exit stage and the alpha path of a row, with the row's draws in every mode and as truncation in mode `OFF`
(43_bit_depth_rescaler.md R112, R114, R117, R118, R121 to R123; 46_row_driver.md R206); O46, O47, O48.
-/

namespace Sys2Proof.Machine

/-! ### The constant alpha -/

/-- The opaque value, companded (R122). -/
theorem aconst_of_companded (t : Act) {j : Job} (h : j.dir = .unpack ∧ j.q.acomp = true) :
    aconst t j = asr (actComp t 65535) (16 - j.s) := by
  simp [aconst, h]

/-- The opaque value (R122). -/
theorem aconst_of_plain (t : Act) {j : Job} (h : ¬ (j.dir = .unpack ∧ j.q.acomp = true)) :
    aconst t j = (2 ^ j.dout - 1 : Nat) := by
  rw [Nat.cast_sub Nat.one_le_two_pow]
  simpa [aconst] using fun hdir hcomp => absurd ⟨hdir, hcomp⟩ h

theorem aconst_nonneg (t : Act) (j : Job) : 0 ≤ aconst t j := by
  by_cases h : j.dir = .unpack ∧ j.q.acomp = true
  · rw [aconst_of_companded t h]
    exact Int.ediv_nonneg (sampleInRange_sat 16 _).1 (by positivity)
  · rw [aconst_of_plain t h]
    exact Int.natCast_nonneg _

/-! ### Draws in order -/

/-- Settles O48, from the array of each channel and the draws of the row. -/
theorem rowSamplesTakeDrawsInOrder : Obligations.RowSamplesTakeDrawsInOrder := by
  intro t j r b al ds o decomp comp kept alphaDepth one alpha before value cut source
  have hc0 := c0_exitRow t j r b al ds
  refine ⟨fun x hx => ?luma, fun hfull x hx => ?full, fun hhalf hkept i hi => ?halved,
    chroma_exitRow_of_dropped t j r b al ds, fun hout x hx => ?alpha, exitRow_snd t j r b al ds⟩
  case luma =>
    rw [hc0, nth_tabulate _ hx]
    rfl
  case full =>
    obtain ⟨hc1, hc2⟩ := chroma_exitRow_of_fullChroma t j r b al ds hfull
    rw [hc1, hc2, nth_tabulate _ hx, nth_tabulate _ hx]
    exact ⟨rfl, rfl⟩
  case halved =>
    obtain ⟨hc1, hc2⟩ := chroma_exitRow_of_halfChroma t j r b al ds hhalf hkept
    rw [hc1, hc2, nth_tabulate _ hi, nth_tabulate _ hi]
    exact ⟨rfl, rfl⟩
  case alpha =>
    rw [a_exitRow t j r b al ds hout, nth_tabulate _ hx, alphaOutAt]
    refine if_congr Iff.rfl rfl ?_
    split
    case isTrue hcomp => rw [aconst_of_companded t hcomp]; rfl
    case isFalse hplain => rw [aconst_of_plain t hplain]; rfl

/-! ### Mode `OFF` -/

/-- Without a draw, the depth change drops the low bits (R112, R121). -/
theorem sampleOut_off (ds : Draws) {v : Int} {s : Nat} (hv : SampleInRange s v) (t k : Nat) :
    sampleOut .off ds v s t k = (v / 2 ^ (s - t)).toNat := by
  rcases Nat.lt_or_ge t s with hlt | hle
  · have hnarrow : narrow v s t 0 = asr v (s - t) := by
      rw [narrow, Nat.cast_zero, add_zero, sat_of_sampleInRange (sampleInRange_asr hv hlt.le)]
    rw [sampleOut, if_neg (Nat.not_le.2 hlt)]
    exact congrArg Int.toNat hnarrow
  · rw [sampleOut_kept _ _ _ hle, Nat.sub_eq_zero_of_le hle, pow_zero, Int.ediv_one]

theorem colourOut_off {j : Job} (hmode : j.mode = .off) (ds : Draws) {l : List Int}
    (hl : ∀ v ∈ l, SampleInRange j.dw v) (i k : Nat) :
    j.colourOut ds (nth l i) k = (nth l i / 2 ^ (j.dw - j.dout)).toNat := by
  rw [Job.colourOut, hmode, sampleOut_off ds (sampleInRange_nth hl i)]

/-- Settles O46, from the array of each channel. -/
theorem offModeExitTruncates : Obligations.OffModeExitTruncates := by
  intro t j r b al ds hmode hb o cut
  obtain ⟨hb0, hb1, hb2⟩ := (rowsInRange_iff _ _).1 hb
  refine ⟨?draws, fun x hx => ?luma, fun hfull x hx => ?full, fun hhalf hrow i hi => ?halved, fun hout hrow => ?dropped⟩
  case draws =>
    rw [exitRow_snd, hmode]
    rfl
  case luma => rw [c0_exitRow, nth_tabulate _ hx, colourOut_off hmode ds hb0]
  case full =>
    obtain ⟨hc1, hc2⟩ := chroma_exitRow_of_fullChroma t j r b al ds hfull
    rw [hc1, hc2, nth_tabulate _ hx, nth_tabulate _ hx, colourOut_off hmode ds hb1, colourOut_off hmode ds hb2]
    exact ⟨rfl, rfl⟩
  case halved =>
    have hcol : i < (j.w + 1) / 2 := by omega
    obtain ⟨hc1, hc2⟩ := chroma_exitRow_of_halfChroma t j r b al ds hhalf (if_pos hrow)
    rw [hc1, hc2, nth_tabulate _ hcol, nth_tabulate _ hcol, colourOut_off hmode ds hb1, colourOut_off hmode ds hb2]
    exact ⟨rfl, rfl⟩
  case dropped => exact chroma_exitRow_of_dropped t j r b al ds (if_neg (by simp [hout, hrow]))

/-- An input alpha is in range before its depth change, with either path (R120, R123). -/
theorem sampleInRange_alphaSource (t : Act) (j : Job) (a : Int) : SampleInRange j.alphaDepth (alphaSource t j a) := by
  unfold alphaSource Job.alphaDepth
  cases j.q.acomp with
  | false => exact sampleInRange_toWorking j a
  | true =>
    simp only [Bool.not_true, Bool.false_eq_true, if_false, if_true]
    split <;> exact sampleInRange_sat 16 _

theorem alphaOutAt_of_constant (t : Act) {j : Job} (hin : j.alphaIn = false) (r : Nat) (al : List Int) (ds : Draws)
    (x : Nat) : (alphaOutAt t j r al ds x : Int) = aconst t j := by
  simp [alphaOutAt, hin, aconst_nonneg]

theorem alphaOutAt_off (t : Act) {j : Job} (hin : j.alphaIn = true) (hmode : j.mode = .off) (r : Nat) (al : List Int)
    (ds : Draws) (x : Nat) :
    (alphaOutAt t j r al ds x : Int) = alphaSource t j (nth al x) / 2 ^ (j.alphaDepth - j.dout) := by
  have hrange := sampleInRange_alphaSource t j (nth al x)
  rw [alphaOutAt, if_pos hin, hmode, sampleOut_off ds hrange,
    Int.toNat_of_nonneg (Int.ediv_nonneg hrange.1 (by positivity))]

/-- An element of an array read as integers, as the obligation on alpha reads it. -/
theorem nth_bind_pure_natCast (l : List Nat) (x : Nat) : nth (do let a ← l; pure (a : Int)) x = (nth l x : Nat) := by
  rw [bind_pure_comp, List.map_eq_map]
  exact List.getD_map ..

/-- Settles O47: each case is a constant, or the source of its path truncated from the path's depth. -/
theorem offModeAlphaPath : Obligations.OffModeAlphaPath := by
  intro t j r b al ds x hmode hout hx out decomp comp
  have hat : out = alphaOutAt t j r al ds x := by
    simp only [out, nth_bind_pure_natCast, a_exitRow t j r b al ds hout, nth_tabulate _ hx]
  have hconst (hin : j.alphaIn = false) : out = aconst t j := hat.trans (alphaOutAt_of_constant t hin r al ds x)
  have hcut (hin : j.alphaIn = true) : out = alphaSource t j (nth al x) / 2 ^ (j.alphaDepth - j.dout) :=
    hat.trans (alphaOutAt_off t hin hmode r al ds x)
  refine ⟨fun hin hcomp => ?opaqueCompanded, fun hin hplain => ?opaquePlain, fun hin hlin => ?linear,
    fun hin hcomp hdir => ?decompanded, fun hin hcomp hdir => ?companded⟩
  case opaqueCompanded => exact (hconst hin).trans (aconst_of_companded t hcomp)
  case opaquePlain =>
    rw [hconst hin, aconst_of_plain t hplain, Nat.cast_sub Nat.one_le_two_pow]
    norm_cast
  case linear =>
    rw [hcut hin]
    simp only [alphaSource, Job.alphaDepth, hlin]
    rfl
  case decompanded =>
    rw [hcut hin, dout_of_pack hdir]
    simp only [alphaSource, Job.alphaDepth, hcomp, hdir]
    rfl
  case companded =>
    rw [hcut hin, dout_of_unpack hdir]
    simp only [alphaSource, Job.alphaDepth, hcomp, hdir]
    rfl

end Sys2Proof.Machine
end

section
/-!
PROOFS. What memory holds after writes that fill disjoint spans: no byte is written twice, so each write's bytes compose to
its value (20_memory.md R41, R54).
-/

namespace Sys2Proof.Machine

/-! ### Bytes and values -/

@[simp] theorem length_leBytes (n v : Nat) : (leBytes n v).length = n := by
  induction n generalizing v with
  | zero => rfl
  | succ n ih => simp [leBytes, ih]

/-- The bytes of a value compose to it, as far as they reach (R41). -/
theorem leValue_leBytes (n v : Nat) : leValue (leBytes n v) = v % 256 ^ n := by
  induction n generalizing v with
  | zero => simp [leBytes, leValue, Nat.mod_one]
  | succ n ih => simp [leBytes, leValue, ih, pow_succ', Nat.mod_mul]

/-- Where memory holds the bytes of a write, they compose to its value (R41). -/
theorem bytesAt_of_bytes {m : Memory} {w : Wr} (h : ∀ x ∈ w.bytes, loadByte m x.1.toNat = x.2) (h0 : 0 ≤ w.addr) :
    bytesAt m w.addr w.n = w.v % 256 ^ w.n := by
  rw [← leValue_leBytes, bytesAt]
  congr 1
  refine List.ext_getElem (by simp) fun i hi hi' => ?_
  rw [tabulate_length] at hi
  have hbyte := h _ (mem_tabulate.2 ⟨i, hi, rfl⟩)
  rw [show (w.addr + i).toNat = w.addr.toNat + i by omega, List.getD_eq_getElem _ _ hi'] at hbyte
  simpa [tabulate] using hbyte

/-! ### Writes that fill disjoint spans -/

theorem meets_eq_false_iff (a b : Span) :
    a.meets b = false ↔ ∀ x : Int, a.start ≤ x → x < a.start + a.len → b.start ≤ x → ¬ x < b.start + b.len := by
  simp only [Span.meets, Bool.and_eq_false_iff, decide_eq_false_iff_not]
  exact ⟨fun h x => by omega, fun h => by have := h (max a.start b.start); omega⟩

theorem selfMeets_eq_false_iff (ss : List Span) :
    selfMeets ss = false ↔ ss.Pairwise fun a b => a.meets b = false := by
  induction ss with
  | nil => simp [selfMeets]
  | cons a ss ih => simp [selfMeets, ih]

/-- Spans that do not meet have no address twice. -/
theorem nodup_addresses {ss : List Span} (h : selfMeets ss = false) : (ss.flatMap Span.addresses).Nodup := by
  refine List.nodup_flatMap.2 ⟨fun sp _ => ?_, ((selfMeets_eq_false_iff ss).1 h).imp fun {a b} hab x ha hb => ?_⟩
  · exact List.nodup_range.map fun i k hik => by simpa using hik
  · obtain ⟨i, hi, rfl⟩ := mem_tabulate.1 ha
    obtain ⟨k, hk, hx⟩ := mem_tabulate.1 hb
    exact (meets_eq_false_iff a b).1 hab (a.start + i) (by omega) (by omega) (by omega) (by omega)

/-- The writes fill the spans with no byte to spare (R131, R199). -/
structure Fills (ws : List Wr) (ss : List Span) : Prop where
  covers : ∀ a, WritesTo ws a ↔ Covers ss a
  count : (ws.map Wr.n).sum = (ss.map Span.len).sum

/-- Writes that fill disjoint spans write no byte twice: they have as many bytes as the spans have addresses, and the spans
have no address twice. -/
theorem Fills.nodup {ws : List Wr} {ss : List Span} (h : Fills ws ss) (hself : selfMeets ss = false) :
    ((ws.flatMap Wr.bytes).map Prod.fst).Nodup := by
  have hsub : ss.flatMap Span.addresses ⊆ (ws.flatMap Wr.bytes).map Prod.fst := fun a ha => by
    simpa only [List.mem_map] using
      (exists_mem_bytes_iff ws a).2 ((h.covers a).2 ((mem_flatMap_addresses ss a).1 ha))
  have hlen : ((ws.flatMap Wr.bytes).map Prod.fst).length = (ss.flatMap Span.addresses).length := by
    simpa [List.length_flatMap, Wr.bytes, Span.addresses] using h.count
  exact ((List.subperm_of_subset (nodup_addresses hself) hsub).perm_of_length_le hlen.le).nodup_iff.1 (nodup_addresses hself)

/-- After writes that fill disjoint spans of the space, each write's bytes compose to its value (R41). -/
theorem Fills.bytesAt_storeBytes {ws : List Wr} {ss : List Span} (h : Fills ws ss) (hself : selfMeets ss = false)
    {p : Platform} (hok : writesOk p ws = true) {m : Memory} (hm : m.wf = true) :
    ∀ w ∈ ws, bytesAt (storeBytes m (ws.flatMap Wr.bytes)) w.addr w.n = w.v % 256 ^ w.n := by
  have hpair : (ws.flatMap Wr.bytes).Pairwise fun x y => x.1.toNat ≠ y.1.toNat := by
    refine (List.pairwise_map.1 (h.nodup hself)).imp_of_mem fun {x y} hx hy hxy => ?_
    have hx0 := (bytes_inSpace hok x hx).1
    have hy0 := (bytes_inSpace hok y hy).1
    omega
  exact fun w hw => bytesAt_of_bytes (fun x hx => loadByte_storeBytes_of_mem hm hpair (List.mem_flatMap.2 ⟨w, hw, hx⟩))
    (accessOk_bounds (List.all_eq_true.1 hok w hw)).1

end Sys2Proof.Machine
end

section
/-!
PROOFS. A row's writes fill its write footprint with no byte to spare, so where footprints are disjoint memory holds each
write's value after the row (R130, R131, R194, R195, R199).
-/

namespace Sys2Proof.Machine

/-! ### The bytes of a row's writes -/

/-- Groups of writes of `s` bytes each have `s * n` bytes together. -/
theorem sum_blocks {n s : Nat} {g : Nat → List Wr} (h : ∀ k, ((g k).map Wr.n).sum = s) :
    (((List.range n).flatMap g).map Wr.n).sum = s * n := by
  induction n with
  | zero => rfl
  | succ n ih => simp [List.range_succ, List.flatMap_append, ih, h, Nat.mul_succ]

theorem sum_tiles {n s : Nat} {f : Nat → Wr} (h : ∀ k, (f k).n = s) : ((tabulate n f).map Wr.n).sum = s * n := by
  rw [← flatMap_range_singleton]
  exact sum_blocks fun k => by simp [h]

/-- The placement rule of a layout in buffer 0 has as many bytes as the external row (R131). -/
theorem sum_placeOf_run {f : Fmt} (hs : singleBuffer f = true) (j : Job) (r : Nat) (o : Arrays)
    (hp : j.fw % fmtPeriod f = 0) : ((placeOf f j r o).map Wr.n).sum = rowBytes j.fw f := by
  cases f with simp only [rowBytes, fmtPeriod] at hp ⊢
  | avid28 | nv12 | yv12 => cases hs
  | rg30 | ar10 | ab10 | r210 | dpx0 => exact sum_tiles fun _ => rfl
  | rgb24 | rgb32 | rgba32 | rgb48 | rgba64 | bgra64 => exact sum_blocks fun _ => rfl
  | yuyv | uyvy => exact (sum_blocks (s := 4) fun _ => rfl).trans (by omega)
  | yu64 | avid214 | avid106 => exact (sum_blocks (s := 8) fun _ => rfl).trans (by omega)
  | v210 => exact (sum_blocks (s := 16) fun _ => rfl).trans (by omega)
  | rgb8p => exact (sum_blocks (s := 48) fun _ => sum_blocks (s := 6) fun _ => rfl).trans (by omega)
  | rgba8p => exact (sum_blocks (s := 64) fun _ => sum_blocks (s := 8) fun _ => rfl).trans (by omega)

/-- Placement has as many bytes as the spans of the external row, for every layout (R131). -/
theorem sum_placeOf (j : Job) (r : Nat) (o : Arrays) (hp : j.fw % fmtPeriod j.fmt = 0) :
    ((placeOf j.fmt j r o).map Wr.n).sum = ((extSpans j j.fw r).map Span.len).sum := by
  by_cases hs : singleBuffer j.fmt = true
  · simpa [extSpans_of_singleBuffer hs] using sum_placeOf_run hs j r o hp
  · generalize hf : j.fmt = f at hs hp ⊢
    have hluma : ((tabulate j.fw fun x => (⟨extRow j 0 r + x, 1, nth o.c0 x⟩ : Wr)).map Wr.n).sum = j.fw :=
      (sum_tiles (s := 1) fun _ => rfl).trans (Nat.one_mul _)
    cases f with
    | nv12 =>
      simp only [fmtPeriod] at hp
      by_cases hr : r % 2 = 1
      · have hchroma := sum_blocks (n := j.fw / 2) (s := 2) (g := fun k =>
          [⟨chromaRow j 1 r + 2 * k, 1, nth o.c1 k⟩, ⟨chromaRow j 1 r + 2 * k + 1, 1, nth o.c2 k⟩]) fun _ => rfl
        simp only [placeOf, placeNv12, extSpans, hf, vdecKeeps, hr, rowBytes, List.map_append, List.sum_append, hluma,
          decide_true, if_true, hchroma, List.map_cons, List.map_nil, List.sum_cons, List.sum_nil]
        omega
      · simp [placeOf, placeNv12, extSpans, hf, vdecKeeps, hr, rowBytes, hluma]
    | yv12 =>
      simp only [fmtPeriod] at hp
      by_cases hr : r % 2 = 1
      · have hchroma := sum_blocks (n := j.fw / 2) (s := 2) (g := fun k =>
          [⟨chromaRow j 1 r + k, 1, nth o.c2 k⟩, ⟨chromaRow j 2 r + k, 1, nth o.c1 k⟩]) fun _ => rfl
        simp only [placeOf, placeYv12, extSpans, hf, vdecKeeps, hr, rowBytes, List.map_append, List.sum_append, hluma,
          decide_true, if_true, hchroma, List.map_cons, List.map_nil, List.sum_cons, List.sum_nil]
        omega
      · simp [placeOf, placeYv12, extSpans, hf, vdecKeeps, hr, rowBytes, hluma]
    | avid28 =>
      simp only [fmtPeriod] at hp
      refine (sum_blocks (s := 5) fun _ => rfl).trans ?_
      simp only [extSpans, hf, rowBytes, List.map_cons, List.map_nil, List.sum_cons, List.sum_nil]
      omega
    | _ => exact absurd rfl hs

theorem sum_storeRow (j : Job) (r : Nat) (ch : Chan) (vs : List Nat) :
    ((storeRow j r ch vs).map Wr.n).sum = ncols j.fam j.w ch * j.bps :=
  (sum_tiles (s := j.bps) fun _ => rfl).trans (Nat.mul_comm _ _)

/-- The stores of a planar row have as many bytes as its spans (R195, R199). -/
theorem sum_storeRows (j : Job) (r : Nat) (o : Arrays) :
    ((storeRows j r o).map Wr.n).sum = ((planeSpans j r).map Span.len).sum := by
  cases hfam : j.q.pfam <;>
    simp [storeRows, planeSpans, Job.fam, hfam, familyStructure, familyChans, Structure.colours, Structure.isYuv,
      sum_storeRow]

/-- Placement fills the external row (R130, R131). -/
theorem fills_placeOf {j : Job} (hp : j.fw % fmtPeriod j.fmt = 0) (r : Nat) (o : Arrays) :
    Fills (placeOf j.fmt j r o) (extSpans j j.fw r) where
  covers a := writesTo_placeOf j r o a hp
  count := sum_placeOf j r o hp

/-- The writes of a row fill the row's write footprint (R194, R195, R199). -/
theorem fills_of_rowOf {d : Dir} {f : Fmt} {j : Job} (hd : j.dir = d) (hf : j.fmt = f) (hal : j.Aligned) {s : State}
    {r : Nat} {ws : List Wr} {ds : Draws} (h : rowOf d f s j r = some (ws, ds)) : Fills ws (rowWrites j r) := by
  refine ⟨writesTo_of_rowOf hd hf hal h, ?_⟩
  subst hd hf
  obtain ⟨⟨o, rfl⟩, -⟩ := rowOf_eq_some h
  cases hdir : j.dir with
  | pack => simp only [rowWrites, hdir]; exact sum_placeOf j r o (hal.frame hdir)
  | unpack => simp only [rowWrites, hdir]; exact sum_storeRows j r o

/-! ### The row that runs -/

/-- A request whose footprints do not overlap has no row that writes a byte twice (R54). -/
theorem selfMeets_rowWrites_of_overlaps {j : Job} (h : overlaps j = false) {r : Nat} (hr : r < j.h) :
    selfMeets (rowWrites j r) = false := by
  obtain ⟨-, hself⟩ := Bool.or_eq_false_iff.1 h
  have hpair := (selfMeets_eq_false_iff _).1 hself
  rw [writeFootprint, List.pairwise_flatMap] at hpair
  exact (selfMeets_eq_false_iff _).2 (hpair.1 r (List.mem_range.2 hr))

/-- A row that can run completes within its frame, and where footprints are disjoint memory then holds the values of its
writes (R193, R194, R195). -/
theorem exec_row_of_rowRuns {d : Dir} {f : Fmt} {q : ReqFields} {s : State} {j : Job} (h : RowRuns d f q s j) :
    ∃ ws ds t, rowOf d f s j s.row.toNat = some (ws, ds) ∧ exec (reqInstr q d f) s = .next t ∧ RowFrame s t j
      ∧ t.dstate = ds.dstate
      ∧ (overlaps j = false → ∀ w ∈ ws, bytesAt t.mem w.addr w.n = w.v % 256 ^ w.n) := by
  obtain ⟨hwf, hb, hj, hr, hreads, hwrites⟩ := h
  obtain ⟨-, hd, hf, -⟩ := prepare_eq_ok hj
  obtain ⟨hserved, hal⟩ := prepare_served_aligned hj
  obtain ⟨ws, ds, hresult⟩ := rowOf_of_spansOk hd hf hserved hal hreads
  have hrow : rowOf d f s j s.row.toNat = some (ws, ds) := hresult s.mem fun _ _ => rfl
  have hfills := fills_of_rowOf hd hf hal hrow
  have hok : writesOk s.platform ws = true :=
    writesOk_of_spansOk hwrites (fun a => (hfills.covers a).1) (pos_of_mem_rowOf hrow)
  refine ⟨ws, ds, _, hrow, exec_row_completes hb hj hr hrow hok, ⟨rfl, fun a ha => ?_, (dstate_of_rowOf hrow).1⟩, rfl,
    fun hdisjoint => hfills.bytesAt_storeBytes (selfMeets_rowWrites_of_overlaps hdisjoint hr) hok hwf⟩
  exact loadByte_writes_of_not_writesTo hok s.mem fun hw => ha ((hfills.covers a).1 hw)

end Sys2Proof.Machine
end

section
/-!
PROOFS. The words of the layouts as numbers: the 10:10:10 word, the byte swap and the low-bits byte, and that every value
placement writes fits its bytes (44_format_codecs_yuv.md R130, R138, R146; 45_format_codecs_rgb.md R172 to R186).
-/

namespace Sys2Proof.Machine

/-! ### Words made of fields -/

/-- Disjoint bits: `a` below bit `n`, `b` from bit `n` on. -/
theorem or_shiftLeft_eq_add {a n : Nat} (h : a < 2 ^ n) (b : Nat) : a ||| b <<< n = a + b * 2 ^ n := by
  rw [Nat.or_comm, ← Nat.shiftLeft_add_eq_or_of_lt h, Nat.shiftLeft_eq, Nat.add_comm]

/-- Three samples at bits 0, 10 and 20 as a number (R138). -/
theorem word10_eq_add {a b : Nat} (ha : a < 2 ^ 10) (hb : b < 2 ^ 10) (c : Nat) :
    word10 a b c = a + b * 2 ^ 10 + c * 2 ^ 20 := by
  rw [word10, or_shiftLeft_eq_add ha, or_shiftLeft_eq_add (by omega)]

/-- The low two bits of four samples in one byte, as a number (R146). -/
theorem lowBits_eq_add (a b c d : Nat) :
    a % 4 ||| (b % 4) <<< 2 ||| (c % 4) <<< 4 ||| (d % 4) <<< 6 = a % 4 + b % 4 * 4 + c % 4 * 16 + d % 4 * 64 := by
  rw [or_shiftLeft_eq_add (n := 2) (by omega), or_shiftLeft_eq_add (n := 4) (by omega),
    or_shiftLeft_eq_add (n := 6) (by omega)]
  norm_num

/-- The high bits over two low bits, as a number (R147). -/
theorem highBits_or_lowBits (h l : Nat) : h <<< 2 ||| l % 4 = h * 4 + l % 4 := by
  rw [Nat.or_comm, or_shiftLeft_eq_add (n := 2) (by omega), Nat.add_comm]
  norm_num

/-! ### The byte swap -/

theorem bswap32_lt (w : Nat) : bswap32 w < 2 ^ 32 := Nat.and_lt_two_pow _ (by decide)

/-- The mask of the even bytes of a word. -/
theorem testBit_evenBytes (i : Nat) : Nat.testBit 0x00FF00FF i = decide (i < 32 ∧ i % 16 < 8) := by
  rcases Nat.lt_or_ge i 32 with hi | hi
  · interval_cases i <;> decide
  · rw [Nat.testBit_lt_two_pow (Nat.lt_of_lt_of_le (by decide) (Nat.pow_le_pow_right (by decide) hi))]
    simp [Nat.not_lt.2 hi]

/-- Swapping moves bit `i` of byte `k` to bit `i` of byte `3 - k` (R186). -/
theorem testBit_bswap32 (w : Nat) {i : Nat} (hi : i < 32) :
    (bswap32 w).testBit i = w.testBit (24 - 8 * (i / 8) + i % 8) := by
  have hfull : Nat.testBit 0xFFFFFFFF i = true := by
    rw [show 0xFFFFFFFF = 2 ^ 32 - 1 from rfl, Nat.testBit_two_pow_sub_one]
    simpa using hi
  simp only [bswap32, Nat.testBit_and, Nat.testBit_or, Nat.testBit_shiftLeft, Nat.testBit_shiftRight, testBit_evenBytes,
    hfull, Bool.and_true]
  interval_cases i <;> simp

/-- Swapping twice gives the word back (R186). -/
theorem bswap32_bswap32 {w : Nat} (hw : w < 2 ^ 32) : bswap32 (bswap32 w) = w := by
  refine Nat.eq_of_testBit_eq fun i => ?_
  rcases Nat.lt_or_ge i 32 with hi | hi
  · rw [testBit_bswap32 _ hi, testBit_bswap32 _ (by omega)]
    congr 1
    omega
  · have hpow : 2 ^ 32 ≤ 2 ^ i := Nat.pow_le_pow_right (by decide) hi
    rw [Nat.testBit_lt_two_pow ((bswap32_lt _).trans_le hpow), Nat.testBit_lt_two_pow (hw.trans_le hpow)]

/-! ### Every value placed fits its bytes -/

theorem nth_lt {l : List Nat} {d : Nat} (h : ∀ v ∈ l, v < 2 ^ d) (i : Nat) : nth l i < 2 ^ d := by
  unfold nth
  rcases Nat.lt_or_ge i l.length with hi | hi
  · rw [List.getD_eq_getElem l default hi]
    exact h _ (List.getElem_mem hi)
  · rw [List.getD_eq_default l default hi]
    positivity

/-- Every sample of arrays in range is in range, past the end of a row too. -/
structure Arrays.SamplesLt (o : Arrays) (d : Nat) : Prop where
  c0 : ∀ i, nth o.c0 i < 2 ^ d
  c1 : ∀ i, nth o.c1 i < 2 ^ d
  c2 : ∀ i, nth o.c2 i < 2 ^ d
  a : ∀ i, nth o.a i < 2 ^ d

theorem samplesLt_of_inRange {o : Arrays} {d : Nat} (h : o.inRange d) : o.SamplesLt d where
  c0 := nth_lt (h _ (by simp))
  c1 := nth_lt (h _ (by simp))
  c2 := nth_lt (h _ (by simp))
  a := nth_lt (h _ (by simp))

theorem word10_lt {a b c : Nat} (ha : a < 2 ^ 10) (hb : b < 2 ^ 10) (hc : c < 2 ^ 10) : word10 a b c < 2 ^ 32 := by
  rw [word10_eq_add ha hb]
  omega

theorem forall_mem_blocks {n : Nat} {g : Nat → List Wr} {P : Wr → Prop} :
    (∀ w ∈ (List.range n).flatMap g, P w) ↔ ∀ k < n, ∀ w ∈ g k, P w := by
  simp only [List.forall_mem_flatMap, List.mem_range]

theorem forall_mem_tiles {n : Nat} {f : Nat → Wr} {P : Wr → Prop} :
    (∀ w ∈ tabulate n f, P w) ↔ ∀ k < n, P (f k) := by
  simp only [mem_tabulate, forall_exists_index, and_imp, forall_apply_eq_imp_iff₂]

/-- The fourth byte of `RGB32` (R162). -/
theorem opaque_lt (p : Prop) [Decidable p] : (if p then 0xFF else 0x00) < 256 ^ 1 := by split <;> decide

/-- The low bits of four samples fill one byte (R146). -/
theorem lowBits_lt (a b c d : Nat) : a % 4 ||| (b % 4) <<< 2 ||| (c % 4) <<< 4 ||| (d % 4) <<< 6 < 256 ^ 1 := by
  rw [lowBits_eq_add]
  omega

theorem highBits_lt {v : Nat} (h : v < 2 ^ 10) : v >>> 2 < 256 ^ 1 := by
  rw [Nat.shiftRight_eq_div_pow]
  omega

/-- Placement of samples in range writes values that fit their bytes (R130). -/
theorem lt_of_mem_placeOf (f : Fmt) (j : Job) (r : Nat) {o : Arrays} (h : o.SamplesLt (fmtDepth f)) :
    ∀ w ∈ placeOf f j r o, w.v < 256 ^ w.n := by
  obtain ⟨h0, h1, h2, ha⟩ := h
  cases f with
    simp only [placeOf, placeRgb24, placeRgb32, placeRgba32, placeRgb48, placeRgba64, placeBgra64, placeRg30, placeAr10,
      placeAb10, placeR210, placeDpx0, placeRgb8p, placeRgba8p, placeYuyv, placeUyvy, placeYu64, placeV210, placeAvid28,
      placeAvid214, placeAvid106, placeNv12, placeYv12, forall_mem_blocks, forall_mem_tiles, List.forall_mem_cons,
      List.forall_mem_append, List.not_mem_nil, false_implies, implies_true, and_true]
  | rgb24 => exact fun x _ => ⟨h2 x, h1 x, h0 x⟩
  | rgb32 => exact fun x _ => ⟨h2 x, h1 x, h0 x, opaque_lt _⟩
  | rgba32 => exact fun x _ => ⟨h2 x, h1 x, h0 x, ha x⟩
  | rgb48 => exact fun x _ => ⟨h0 x, h1 x, h2 x⟩
  | rgba64 => exact fun x _ => ⟨h0 x, h1 x, h2 x, ha x⟩
  | bgra64 => exact fun x _ => ⟨h2 x, h1 x, h0 x, ha x⟩
  | rg30 | ab10 => exact fun x _ => word10_lt (h0 x) (h1 x) (h2 x)
  | ar10 => exact fun x _ => word10_lt (h2 x) (h1 x) (h0 x)
  | r210 | dpx0 => exact fun _ _ => bswap32_lt _
  | rgb8p => exact fun g _ i _ => ⟨h0 _, h1 _, h2 _⟩
  | rgba8p => exact fun g _ i _ => ⟨h0 _, h1 _, h2 _, ha _⟩
  | yuyv => exact fun k _ => ⟨h0 _, h1 k, h0 _, h2 k⟩
  | uyvy => exact fun k _ => ⟨h1 k, h0 _, h2 k, h0 _⟩
  | yu64 => exact fun k _ => ⟨h0 _, h1 k, h0 _, h2 k⟩
  | avid106 => exact fun k _ => ⟨h1 k, h0 _, h2 k, h0 _⟩
  | avid214 =>
    have hweak {v : Nat} (hv : v < 2 ^ 14) : v < 256 ^ 2 := hv.trans (by decide)
    exact fun k _ => ⟨hweak (h1 k), hweak (h0 _), hweak (h2 k), hweak (h0 _)⟩
  | v210 =>
    exact fun g _ => ⟨word10_lt (h1 _) (h0 _) (h2 _), word10_lt (h0 _) (h1 _) (h0 _), word10_lt (h2 _) (h0 _) (h1 _),
      word10_lt (h0 _) (h2 _) (h0 _)⟩
  | avid28 =>
    exact fun k _ => ⟨lowBits_lt _ _ _ _, highBits_lt (h1 k), highBits_lt (h0 _), highBits_lt (h2 k), highBits_lt (h0 _)⟩
  | nv12 =>
    refine ⟨fun x _ => h0 x, ?_⟩
    split
    · exact forall_mem_blocks.2 fun k _ => by simpa using ⟨h1 k, h2 k⟩
    · simp
  | yv12 =>
    refine ⟨fun x _ => h0 x, ?_⟩
    split
    · exact forall_mem_blocks.2 fun k _ => by simpa using ⟨h2 k, h1 k⟩
    · simp

end Sys2Proof.Machine
end

section
/-!
PROOFS. Extracting what placement wrote gives the samples back, for the layouts both directions serve
(44_format_codecs_yuv.md R130, R131; 43_bit_depth_rescaler.md R125); O43.
-/

namespace Sys2Proof.Machine

/-! ### Rows as arrays of groups -/

section
variable {c n : Nat} {g : Nat → List Nat}

theorem length_flatMap_groups (hg : ∀ k, (g k).length = c) : ((List.range n).flatMap g).length = c * n := by
  simp [List.length_flatMap, hg, Nat.mul_comm]

/-- Element `c k + i` of groups of `c` is element `i` of group `k` (R8). -/
theorem nth_flatMap_groups (hg : ∀ k, (g k).length = c) {k i : Nat} (hk : k < n) (hi : i < c) :
    nth ((List.range n).flatMap g) (c * k + i) = nth (g k) i := by
  unfold nth
  induction n with
  | zero => omega
  | succ n ih =>
    rw [List.range_succ, List.flatMap_append, List.flatMap_singleton]
    rcases Nat.lt_succ_iff_lt_or_eq.1 hk with hlt | rfl
    · have hin : c * k + i < c * n := by
        calc c * k + i < c * (k + 1) := by rw [Nat.mul_succ]; omega
          _ ≤ c * n := Nat.mul_le_mul_left c hlt
      rw [List.getD_append _ _ _ _ (by rwa [length_flatMap_groups hg]), ih hlt]
    · rw [List.getD_append_right _ _ _ _ (by rw [length_flatMap_groups hg]; omega), length_flatMap_groups hg,
        Nat.add_sub_cancel_left]

/-- Two rows of one length with the same elements are the same row (R8). -/
theorem eq_of_nth_eq {l l' : List Nat} (hlen : l.length = l'.length) (h : ∀ x < l'.length, nth l x = nth l' x) : l = l' := by
  refine List.ext_getElem hlen fun x hx hx' => ?_
  simpa only [nth, List.getD_eq_getElem _ _ hx, List.getD_eq_getElem _ _ hx'] using h x hx'

end

/-- A row is the array of its samples (R8). -/
theorem tabulate_samples {l : List Nat} {n : Nat} (hl : l.length = n) : tabulate n (nth l) = l :=
  eq_of_nth_eq (by simp [hl]) fun x hx => nth_tabulate _ (hl ▸ hx)

/-- A row of whole groups of `c` samples is made up of its groups (R8). -/
theorem flatten_groups_samples (c : Nat) {l : List Nat} {n : Nat} (hl : l.length = c * n) :
    (tabulate n fun k => tabulate c fun i => nth l (c * k + i)).flatten = l := by
  rw [← flatMap_range_eq]
  have hlen (k : Nat) : (tabulate c fun i => nth l (c * k + i)).length = c := by simp
  refine eq_of_nth_eq ((length_flatMap_groups hlen).trans hl.symm) fun x hx => ?_
  have hx : x < c * n := hl ▸ hx
  have hc : 0 < c := Nat.pos_of_ne_zero fun h0 => by simp [h0] at hx
  have hi : x % c < c := Nat.mod_lt x hc
  rw [← Nat.div_add_mod x c, nth_flatMap_groups hlen (Nat.div_lt_of_lt_mul hx) hi, nth_tabulate _ hi]

/-- A row of whole pairs is made up of its pairs (R135 to R151). -/
theorem flatten_pairs_samples {l : List Nat} {n : Nat} (hl : l.length = 2 * n) :
    (tabulate n fun k => [nth l (2 * k), nth l (2 * k + 1)]).flatten = l := flatten_groups_samples 2 hl

theorem map_tabulate {α β : Type} (n : Nat) (f : Nat → α) (g : α → β) :
    (tabulate n f).map g = tabulate n fun i => g (f i) :=
  List.map_map

/-! ### Fields of words -/

theorem word10_fields {a b c : Nat} (ha : a < 2 ^ 10) (hb : b < 2 ^ 10) (hc : c < 2 ^ 10) :
    word10 a b c >>> 0 % 2 ^ 10 = a ∧ word10 a b c >>> 10 % 2 ^ 10 = b ∧ word10 a b c >>> 20 % 2 ^ 10 = c := by
  simp only [word10_eq_add ha hb, Nat.shiftRight_eq_div_pow]
  omega

/-- The word of `DPX0` is the 10:10:10 word two bits higher (R180). -/
theorem dpxWord_eq (a b c : Nat) : a <<< 22 ||| b <<< 12 ||| c <<< 2 = word10 c b a <<< 2 := by
  simp only [word10, Nat.shiftLeft_or_distrib, ← Nat.shiftLeft_add]
  rw [Nat.or_comm, Nat.or_comm (a <<< 22), ← Nat.or_assoc]

theorem dpxWord_lt {a b c : Nat} (ha : a < 2 ^ 10) (hb : b < 2 ^ 10) (hc : c < 2 ^ 10) :
    a <<< 22 ||| b <<< 12 ||| c <<< 2 < 2 ^ 32 := by
  rw [dpxWord_eq, word10_eq_add hc hb, Nat.shiftLeft_eq]
  omega

theorem dpxWord_fields {a b c : Nat} (ha : a < 2 ^ 10) (hb : b < 2 ^ 10) (hc : c < 2 ^ 10) :
    (a <<< 22 ||| b <<< 12 ||| c <<< 2) >>> 22 % 2 ^ 10 = a
      ∧ (a <<< 22 ||| b <<< 12 ||| c <<< 2) >>> 12 % 2 ^ 10 = b
      ∧ (a <<< 22 ||| b <<< 12 ||| c <<< 2) >>> 2 % 2 ^ 10 = c := by
  rw [dpxWord_eq, word10_eq_add hc hb]
  simp only [Nat.shiftLeft_eq, Nat.shiftRight_eq_div_pow]
  omega

/-- Two low bits and eight high bits make up each sample again (R146, R147). -/
theorem avid28_fields (a b c d : Nat) :
    let lo := a % 4 ||| (b % 4) <<< 2 ||| (c % 4) <<< 4 ||| (d % 4) <<< 6
    (a >>> 2) <<< 2 ||| lo >>> (2 * 0) % 4 = a ∧ (b >>> 2) <<< 2 ||| lo >>> (2 * 1) % 4 = b
      ∧ (c >>> 2) <<< 2 ||| lo >>> (2 * 2) % 4 = c ∧ (d >>> 2) <<< 2 ||| lo >>> (2 * 3) % 4 = d := by
  simp only [lowBits_eq_add, highBits_or_lowBits, Nat.shiftRight_eq_div_pow]
  omega

/-! ### Extraction from memory that holds the placed values -/

/-- Reads that answer the values of a placed row: an image row as wide as the frame, of whole periods, of samples in range
(R130, R131). -/
structure ReadsPlaced (f : Fmt) (v : Int → Nat → Nat) (j : Job) (r : Nat) (o : Arrays) : Prop where
  frame : j.fw = j.w
  period : j.w % fmtPeriod f = 0
  fits : o.fits f j.w
  range : o.SamplesLt (fmtDepth f)
  reads : ∀ w ∈ placeOf f j r o, v w.addr w.n = w.v

/-- The RGB layouts: the arrays of the reads are those of the samples or of the fields of their words (R160 to R185). -/
theorem extractOf_of_placed_rgb {f : Fmt} (hf : (fmtKind f).isYuv = false) {v : Int → Nat → Nat} {j : Job} {r : Nat}
    {o : Arrays} (hplaced : ReadsPlaced f v j r o) : extractOf f (fun a n => some (v a n)) j r = some o := by
  obtain ⟨hfw, hp, ⟨h0, h1, h2, ha⟩, ⟨l0, l1, l2, -⟩, h⟩ := hplaced
  obtain ⟨y, u, z, al⟩ := o
  cases f with simp only [placeOf, placeRgb24, placeRgb32, placeRgba32, placeRgb48, placeRgba64, placeBgra64, placeRg30,
      placeAr10, placeAb10, placeR210, placeDpx0, placeRgb8p, placeRgba8p, forall_mem_blocks, forall_mem_tiles,
      List.forall_mem_cons, List.not_mem_nil, false_implies, implies_true, and_true, hfw, fmtPeriod, fmtDepth, fmtKind, ncols,
      Structure.halfChroma, if_true, if_false, reduceCtorEq, Bool.false_eq_true, List.length_eq_zero_iff]
      at h hp h0 h1 h2 ha l0 l1 l2
  | yuyv | uyvy | v210 | yu64 | avid28 | avid214 | avid106 | nv12 | yv12 => cases hf
  | rgb24 | rgb32 | rgb48 =>
    simp only [extractOf, extractRgb24, extractRgb32, extractRgb48, allSome_tabulate_some, arrays3, arrays4, Option.map_some]
    simp +contextual only [h, tabulate_samples h0, tabulate_samples h1, tabulate_samples h2, ha]
  | rgba32 | rgba64 | bgra64 =>
    simp only [extractOf, extractRgba32, extractRgba64, extractBgra64, allSome_tabulate_some, arrays4]
    simp +contextual only [h, tabulate_samples h0, tabulate_samples h1, tabulate_samples h2, tabulate_samples ha]
  | rg30 | ab10 =>
    simp only [extractOf, extractRg30, extractAb10, allSome_tabulate_some, Option.map_some, map_tabulate]
    simp +contextual only [h, word10_fields (l0 _) (l1 _) (l2 _), tabulate_samples h0, tabulate_samples h1,
      tabulate_samples h2, ha]
  | ar10 =>
    simp only [extractOf, extractAr10, allSome_tabulate_some, Option.map_some, map_tabulate]
    simp +contextual only [h, word10_fields (l2 _) (l1 _) (l0 _), tabulate_samples h0, tabulate_samples h1,
      tabulate_samples h2, ha]
  | r210 =>
    have hswap x := bswap32_bswap32 (word10_lt (l2 x) (l1 x) (l0 x))
    simp only [extractOf, extractR210, allSome_tabulate_some, Option.map_some, map_tabulate]
    simp +contextual only [h, hswap, word10_fields (l2 _) (l1 _) (l0 _), tabulate_samples h0, tabulate_samples h1,
      tabulate_samples h2, ha]
  | dpx0 =>
    have hswap x := bswap32_bswap32 (dpxWord_lt (l0 x) (l1 x) (l2 x))
    simp only [extractOf, extractDpx0, allSome_tabulate_some, Option.map_some, map_tabulate]
    simp +contextual only [h, hswap, dpxWord_fields (l0 _) (l1 _) (l2 _), tabulate_samples h0, tabulate_samples h1,
      tabulate_samples h2, ha]
  | rgb8p =>
    have hn : j.w = 8 * (j.w / 8) := by omega
    simp only [extractOf, extractRgb8p, allSome_groups_some, arrays3]
    simp +contextual only [flatMap_range_eq, h, flatten_groups_samples 8 (h0.trans hn), flatten_groups_samples 8 (h1.trans hn),
      flatten_groups_samples 8 (h2.trans hn), ha]
  | rgba8p =>
    have hn : j.w = 8 * (j.w / 8) := by omega
    simp only [extractOf, extractRgba8p, allSome_groups_some, arrays4]
    simp +contextual only [flatMap_range_eq, h, flatten_groups_samples 8 (h0.trans hn), flatten_groups_samples 8 (h1.trans hn),
      flatten_groups_samples 8 (h2.trans hn), flatten_groups_samples 8 (ha.trans hn)]

/-- The YUV layouts: the arrays of the reads are made up of pairs, or of V210's groups of six pixels (R134 to R151). -/
theorem extractOf_of_placed_yuv {f : Fmt} (hf : fmtKind f = .yuv422) {v : Int → Nat → Nat} {j : Job} {r : Nat}
    {o : Arrays} (hplaced : ReadsPlaced f v j r o) : extractOf f (fun a n => some (v a n)) j r = some o := by
  obtain ⟨hfw, hp, ⟨h0, h1, h2, ha⟩, ⟨l0, l1, l2, -⟩, h⟩ := hplaced
  obtain ⟨y, u, z, al⟩ := o
  cases f with simp only [placeOf, placeYuyv, placeUyvy, placeYu64, placeV210, placeAvid28, placeAvid214, placeAvid106,
      forall_mem_blocks, List.forall_mem_cons, List.not_mem_nil, false_implies, implies_true, and_true, hfw, fmtPeriod,
      fmtDepth, fmtKind, ncols, Structure.halfChroma, if_true, if_false, reduceCtorEq, List.length_eq_zero_iff]
      at h hp h0 h1 h2 ha l0 l1 l2
  | nv12 | yv12 | rgb24 | rgb32 | rgba32 | rgb48 | rgba64 | bgra64 | rg30 | ar10 | ab10 | r210 | dpx0 | rgb8p | rgba8p =>
    cases hf
  | yuyv | uyvy | yu64 | avid106 =>
    have hn : j.w = 2 * (j.w / 2) := by omega
    simp only [extractOf, extractYuyv, extractUyvy, extractYu64, extractAvid106, allSome_pairs_some, allSome_tabulate_some,
      arrays3]
    simp +contextual only [flatMap_range_eq, h, flatten_pairs_samples (h0.trans hn), tabulate_samples h1,
      tabulate_samples h2, ha]
  | avid214 =>
    have hn : j.w = 2 * (j.w / 2) := by omega
    simp only [extractOf, extractAvid214, Option.map_some, allSome_pairs_some, allSome_tabulate_some, arrays3]
    simp +contextual only [flatMap_range_eq, h, Nat.mod_eq_of_lt (l0 _), Nat.mod_eq_of_lt (l1 _), Nat.mod_eq_of_lt (l2 _),
      flatten_pairs_samples (h0.trans hn), tabulate_samples h1, tabulate_samples h2, ha]
  | avid28 =>
    have hn : j.w = 2 * (j.w / 2) := by omega
    simp only [extractOf, extractAvid28, allSome_tabulate_some]
    simp +contextual only [flatMap_range_eq, nth_tabulate, h, avid28_fields, flatten_pairs_samples (h0.trans hn),
      tabulate_samples h1, tabulate_samples h2, ha]
  | v210 =>
    have hchroma : j.w / 2 = 3 * (j.w / 6) := by omega
    have hluma : j.w = 6 * (j.w / 6) := by omega
    have hy : (tabulate (j.w / 6) fun g => [nth y (6 * g), nth y (6 * g + 1), nth y (6 * g + 2), nth y (6 * g + 3),
        nth y (6 * g + 4), nth y (6 * g + 5)]).flatten = y := flatten_groups_samples 6 (h0.trans hluma)
    have hthree {l : List Nat} (hl : l.length = j.w / 2) :
        (tabulate (j.w / 6) fun g => [nth l (3 * g), nth l (3 * g + 1), nth l (3 * g + 2)]).flatten = l :=
      flatten_groups_samples 3 (hl.trans hchroma)
    simp only [extractOf, extractV210, allSome_tabulate_some]
    simp +contextual only [flatMap_range_eq, nth_tabulate, h, Nat.mul_zero, Nat.reduceMul,
      word10_fields (l1 _) (l0 _) (l2 _), word10_fields (l0 _) (l1 _) (l0 _), word10_fields (l2 _) (l0 _) (l1 _),
      word10_fields (l0 _) (l2 _) (l0 _), hy, hthree h1, hthree h2, ha]

/-- Extraction gives a placed row back, for every layout that both directions serve (R130). -/
theorem extractOf_of_placed {f : Fmt} (hf : f ≠ .nv12 ∧ f ≠ .yv12) {v : Int → Nat → Nat} {j : Job} {r : Nat} {o : Arrays}
    (h : ReadsPlaced f v j r o) : extractOf f (fun a n => some (v a n)) j r = some o := by
  cases hkind : (fmtKind f).isYuv with
  | false => exact extractOf_of_placed_rgb hkind h
  | true =>
    refine extractOf_of_placed_yuv ?_ h
    cases f with
    | nv12 | yv12 => simp at hf
    | yuyv | uyvy | v210 | yu64 | avid28 | avid214 | avid106 => rfl
    | _ => cases hkind

/-! ### The obligation -/

/-- Settles O43: placement fills the external row, which does not meet itself, so the row reads as placed; and extraction
reads nothing else. -/
theorem extractInvertsPlace : Obligations.ExtractInvertsPlace := by
  intro p j r o m hnv hyv hm hfw hp hfits hrange hspans hself
  have hlt := samplesLt_of_inRange hrange
  have hfills : Fills (placeOf j.fmt j r o) (extSpans j j.w r) := hfw ▸ fills_placeOf (hfw ▸ hp) r o
  have hok : writesOk p (placeOf j.fmt j r o) = true :=
    writesOk_of_spansOk hspans (fun a => (hfills.covers a).1) (pos_of_mem_placeOf j.fmt j r o)
  have hreads : ∀ w ∈ placeOf j.fmt j r o,
      bytesAt (storeBytes m ((placeOf j.fmt j r o).flatMap Wr.bytes)) w.addr w.n = w.v := fun w hw => by
    rw [hfills.bytesAt_storeBytes hself hok hm w hw, Nat.mod_eq_of_lt (lt_of_mem_placeOf j.fmt j r hlt w hw)]
  rw [extractOf_congr hp fun a n hn hw => memRead_of_within hspans _ hn hw]
  exact extractOf_of_placed ⟨hnv, hyv⟩ ⟨hfw, hp, hfits, hlt, hreads⟩

end Sys2Proof.Machine
end

section
/-!
PROOFS. PACK rows: a row that can run places its output samples, each layout's at the bytes its rule names
(44_format_codecs_yuv.md R134 to R150); O32, O33, O34.
-/

namespace Sys2Proof.Machine

/-! ### The row of a PACK request -/

/-- A PACK row with a result is the placement of the row's output samples (R194 step 6). -/
theorem packOutput_of_rowOf {f : Fmt} {s : State} {j : Job} {r : Nat} {ws : List Wr} {ds : Draws}
    (h : rowOf .pack f s j r = some (ws, ds)) : ∃ o, packOutput s j r = some (o, ds) ∧ ws = placeOf f j r o := by
  obtain ⟨x, hx, hrow⟩ := Option.map_eq_some_iff.1 h
  obtain ⟨rfl, rfl⟩ := Prod.mk.inj hrow
  exact ⟨_, by rw [packOutput, hx]; rfl, rfl⟩

/-- A PACK request places its rows as `P` says, where `P` follows from memory holding each value that placement writes. -/
theorem packRowPlaces {f : Fmt} {P : Job → Nat → Arrays → Memory → Prop}
    (h : ∀ j r o m, o.SamplesLt (fmtDepth f) → (∀ w ∈ placeOf f j r o, bytesAt m w.addr w.n = w.v) → P j r o m) :
    PackRowPlaces (fun q => reqInstr q .pack f) f P := by
  intro q s j hruns
  obtain ⟨ws, ds, t, hrow, hexec, hframe, hdstate, hmem⟩ := exec_row_of_rowRuns hruns
  obtain ⟨o, hout, rfl⟩ := packOutput_of_rowOf hrow
  obtain ⟨-, -, hj, -⟩ := hruns
  obtain ⟨-, -, hf, -⟩ := prepare_eq_ok hj
  have hlt : o.SamplesLt (fmtDepth f) := samplesLt_of_inRange (hf ▸ outputSamplesInRange.1 f q s.cur s j _ o ds hj hout)
  refine ⟨o, ds, t, hout, hexec, hframe, hdstate, fun hdisjoint => h j _ o t.mem hlt fun w hw => ?_⟩
  rw [hmem hdisjoint w hw, Nat.mod_eq_of_lt (lt_of_mem_placeOf f j _ hlt w hw)]

/-! ### The YUV layouts -/

/-- Settles O32: the rule of each layout, read back write by write. -/
theorem packedYuv422RowsPlaceSamples : Obligations.PackedYuv422RowsPlaceSamples := by
  refine ⟨packRowPlaces (f := .yuyv) fun j r o m _ hmem => ?yuyv, packRowPlaces (f := .uyvy) fun j r o m _ hmem => ?uyvy,
    packRowPlaces (f := .yu64) fun j r o m _ hmem => ?yu64, packRowPlaces (f := .avid214) fun j r o m _ hmem => ?avid214,
    packRowPlaces (f := .avid106) fun j r o m _ hmem => ?avid106⟩
  case yuyv | uyvy | yu64 | avid214 | avid106 =>
    simpa only [placeOf, placeYuyv, placeUyvy, placeYu64, placeAvid214, placeAvid106, forall_mem_blocks,
      List.forall_mem_cons, List.not_mem_nil, false_implies, implies_true, and_true] using hmem

/-- Settles O33: luma of every row, and in odd rows the chroma row (R103). -/
theorem packedPlanar420RowsPlaceSamples : Obligations.PackedPlanar420RowsPlaceSamples := by
  refine ⟨packRowPlaces (f := .nv12) fun j r o m _ hmem => ?nv12, packRowPlaces (f := .yv12) fun j r o m _ hmem => ?yv12⟩
  case nv12 | yv12 =>
    simp only [placeOf, placeNv12, placeYv12, List.forall_mem_append, forall_mem_tiles] at hmem
    obtain ⟨hluma, hchroma⟩ := hmem
    refine ⟨hluma, fun hodd => ?_⟩
    simpa only [vdecKeeps, hodd, decide_true, if_true, chromaRow, forall_mem_blocks, List.forall_mem_cons,
      List.not_mem_nil, false_implies, implies_true, and_true] using hchroma

/-- Settles O34: the words of V210 and the bytes of AVID_2_8 as numbers. -/
theorem packed10BitYuvRowsPlaceSamples : Obligations.Packed10BitYuvRowsPlaceSamples := by
  refine ⟨packRowPlaces (f := .v210) fun j r o m hlt hmem => ?_, packRowPlaces (f := .avid28) fun j r o m _ hmem => ?_⟩
  · obtain ⟨h0, h1, h2, -⟩ := hlt
    simpa only [placeOf, placeV210, forall_mem_blocks, List.forall_mem_cons, List.not_mem_nil, false_implies, implies_true,
      and_true, word10_eq_add (h1 _) (h0 _), word10_eq_add (h0 _) (h1 _), word10_eq_add (h2 _) (h0 _),
      word10_eq_add (h0 _) (h2 _)] using hmem
  · simpa only [placeOf, placeAvid28, forall_mem_blocks, List.forall_mem_cons, List.not_mem_nil, false_implies, implies_true,
      and_true, lowBits_eq_add, Nat.shiftRight_eq_div_pow, Nat.reducePow] using hmem

end Sys2Proof.Machine
end

section
/-!
PROOFS. UNPACK rows: a row that can run takes the fields its layout's rule names, and the planes then hold the output samples
(44_format_codecs_yuv.md R135 to R151; 46_row_driver.md R195); O38, O39.
-/

namespace Sys2Proof.Machine

/-! ### The row of an UNPACK request -/

/-- An UNPACK row with a result is the stores of the output samples of the extracted fields (R195). -/
theorem unpackOutput_of_rowOf {f : Fmt} {s : State} {j : Job} {r : Nat} {ws : List Wr} {ds : Draws}
    (h : rowOf .unpack f s j r = some (ws, ds)) :
    ∃ a, extractOf f (memRead s.platform s.mem) j r = some a ∧ ws = storeRows j r (unpackOutput s j r a).1
      ∧ ds = (unpackOutput s j r a).2 := by
  obtain ⟨a, ha, hrow⟩ := Option.map_eq_some_iff.1 h
  obtain ⟨rfl, rfl⟩ := Prod.mk.inj hrow
  exact ⟨a, ha, rfl, rfl⟩

/-- The stores of a row are those of each channel of the family in turn (R195 step 4). -/
theorem storeRows_eq_flatMap (j : Job) (r : Nat) (o : Arrays) :
    storeRows j r o = (familyChans j.q.pfam).flatMap fun ch => storeRow j r ch (o.chan ch) := by
  cases hpfam : j.q.pfam <;>
    simp [storeRows, Job.fam, hpfam, familyStructure, familyChans, Structure.colours, Structure.isYuv, Arrays.chan]

theorem storePlanar_mem_storeRows {j : Job} (r : Nat) (o : Arrays) {ch : Chan} (hch : ch ∈ familyChans j.q.pfam) {x : Nat}
    (hx : x < ncols j.fam j.w ch) : storePlanar j ch r x (nth (o.chan ch) x) ∈ storeRows j r o := by
  rw [storeRows_eq_flatMap]
  exact List.mem_flatMap.2 ⟨ch, hch, mem_tabulate.2 ⟨x, hx, rfl⟩⟩

/-- A sample of a plane's depth fits the bytes of a planar sample (R42, R67). -/
theorem two_pow_depth_le {b : BitVec 3} {j : Job} (h : decodeDepth b = some j.s) : 2 ^ j.s ≤ 256 ^ j.bps := by
  have hle := decodeDepth_le h
  unfold Job.bps
  split
  · rename_i h8
    rw [h8]
    decide
  · exact Nat.pow_le_pow_right (n := 2) (by decide) hle

/-- An UNPACK request takes the fields `P` says, where `P` follows from extraction answering them from the row's bytes; and the
planes then hold the output samples, which fit their bytes (R45, R195). -/
theorem unpackRowTakes {f : Fmt} {P : Job → Nat → Memory → Arrays → Prop}
    (h : ∀ j r m a, j.w % fmtPeriod f = 0 → extractOf f (fun b n => some (bytesAt m b n)) j r = some a → P j r m a) :
    UnpackRowTakes (fun q => reqInstr q .unpack f) f P := by
  intro q s j hruns
  obtain ⟨ws, ds, t, hrow, hexec, hframe, hdstate, hmem⟩ := exec_row_of_rowRuns hruns
  obtain ⟨a, ha, rfl, rfl⟩ := unpackOutput_of_rowOf hrow
  obtain ⟨-, -, hj, -, hreads, -⟩ := hruns
  obtain ⟨-, hdir, rfl, -, -, hdepth, -⟩ := prepare_eq_ok hj
  obtain ⟨-, hal⟩ := prepare_served_aligned hj
  simp only [rowReads, hdir] at hreads
  rw [extractOf_congr hal.width fun b n hn hw => memRead_of_within hreads s.mem hn hw] at ha
  refine ⟨a, t, h j _ s.mem a hal.width ha, hexec, hframe, hdstate, fun hdisjoint ch hch x hx => ?_⟩
  have hrange : (unpackOutput s j s.row.toNat a).1.inRange j.s :=
    dout_of_unpack hdir ▸ inRange_exitRow_convert hj s.act s.cmt.c709 _ (intRows a) (a.a.map Int.ofNat) s.draws
  have hlt := nth_lt (chan_lt_of_inRange hrange ch) x
  have hstored := hmem hdisjoint _ (storePlanar_mem_storeRows _ (unpackOutput s j s.row.toNat a).1 hch hx)
  exact hstored.trans (Nat.mod_eq_of_lt (hlt.trans_le (two_pow_depth_le hdepth)))

/-! ### Fields in groups -/

section
variable {n k : Nat} (hk : k < n) (f0 f1 f2 f3 f4 f5 : Nat → Nat)
include hk

/-- The samples of pairs (R135 to R151). -/
theorem nth_pairs :
    nth ((List.range n).flatMap fun k => [f0 k, f1 k]) (2 * k) = f0 k
      ∧ nth ((List.range n).flatMap fun k => [f0 k, f1 k]) (2 * k + 1) = f1 k :=
  have hgroup (i : Nat) (hi : i < 2) := nth_flatMap_groups (g := fun k => [f0 k, f1 k]) (fun _ => rfl) hk hi
  ⟨hgroup 0 (by decide), hgroup 1 (by decide)⟩

/-- The chroma samples of V210's groups of six pixels (R139). -/
theorem nth_threes :
    nth ((List.range n).flatMap fun k => [f0 k, f1 k, f2 k]) (3 * k) = f0 k
      ∧ nth ((List.range n).flatMap fun k => [f0 k, f1 k, f2 k]) (3 * k + 1) = f1 k
      ∧ nth ((List.range n).flatMap fun k => [f0 k, f1 k, f2 k]) (3 * k + 2) = f2 k :=
  have hgroup (i : Nat) (hi : i < 3) := nth_flatMap_groups (g := fun k => [f0 k, f1 k, f2 k]) (fun _ => rfl) hk hi
  ⟨hgroup 0 (by decide), hgroup 1 (by decide), hgroup 2 (by decide)⟩

/-- The luma samples of V210's groups of six pixels (R139). -/
theorem nth_sixes :
    let l := (List.range n).flatMap fun k => [f0 k, f1 k, f2 k, f3 k, f4 k, f5 k]
    nth l (6 * k) = f0 k ∧ nth l (6 * k + 1) = f1 k ∧ nth l (6 * k + 2) = f2 k ∧ nth l (6 * k + 3) = f3 k
      ∧ nth l (6 * k + 4) = f4 k ∧ nth l (6 * k + 5) = f5 k :=
  have hgroup (i : Nat) (hi : i < 6) :=
    nth_flatMap_groups (g := fun k => [f0 k, f1 k, f2 k, f3 k, f4 k, f5 k]) (fun _ => rfl) hk hi
  ⟨hgroup 0 (by decide), hgroup 1 (by decide), hgroup 2 (by decide), hgroup 3 (by decide),
    hgroup 4 (by decide), hgroup 5 (by decide)⟩

end

/-- Arrays of pairs fit a 4:2:2 row of whole pairs (R130). -/
theorem fits_pairs {f : Fmt} (hf : fmtKind f = .yuv422) {w : Nat} (hw : w % 2 = 0) (y0 y1 u v : Nat → Nat) :
    Arrays.fits ⟨(List.range (w / 2)).flatMap fun k => [y0 k, y1 k], tabulate (w / 2) u, tabulate (w / 2) v, []⟩ f w := by
  have hluma : ((List.range (w / 2)).flatMap fun k => [y0 k, y1 k]).length = 2 * (w / 2) :=
    length_flatMap_groups fun _ => rfl
  simp only [Arrays.fits, hf, hluma, ncols, Structure.halfChroma, tabulate_length, if_true, reduceCtorEq, if_false,
    List.length_nil, and_true]
  omega

/-- Arrays of V210's groups fit a row of whole groups (R130, R139). -/
theorem fits_v210 {w : Nat} (hw : w % 6 = 0) {gy gu gv : Nat → List Nat} (hy : ∀ g, (gy g).length = 6)
    (hu : ∀ g, (gu g).length = 3) (hv : ∀ g, (gv g).length = 3) :
    Arrays.fits ⟨(List.range (w / 6)).flatMap gy, (List.range (w / 6)).flatMap gu, (List.range (w / 6)).flatMap gv, []⟩
      .v210 w := by
  simp only [Arrays.fits, fmtKind, length_flatMap_groups hy, length_flatMap_groups hu, length_flatMap_groups hv, ncols,
    Structure.halfChroma, if_true, reduceCtorEq, if_false, List.length_nil, and_true]
  omega

/-! ### The YUV layouts -/

/-- Settles O38: the fields of each layout's row are pairs, in the order of its rule. -/
theorem unpackedYuv422RowsTakeFields : Obligations.UnpackedYuv422RowsTakeFields := by
  refine ⟨unpackRowTakes (f := .yuyv) fun j r m a hp ha => ?yuyv, unpackRowTakes (f := .uyvy) fun j r m a hp ha => ?uyvy,
    unpackRowTakes (f := .yu64) fun j r m a hp ha => ?yu64, unpackRowTakes (f := .avid214) fun j r m a hp ha => ?avid214,
    unpackRowTakes (f := .avid106) fun j r m a hp ha => ?avid106⟩
  case yuyv | uyvy | yu64 | avid214 | avid106 =>
    simp only [extractOf, extractYuyv, extractUyvy, extractYu64, extractAvid214, extractAvid106, allSome_pairs_some,
      allSome_tabulate_some, Option.map_some, arrays3, Option.some.injEq] at ha
    subst ha
    exact ⟨fits_pairs rfl hp _ _ _ _, fun k hk => by simp only [nth_pairs hk, nth_tabulate _ hk, and_self]⟩

/-- Settles O39: the fields of V210's words in groups of six pixels, and the high and low bits of AVID_2_8 in pairs. -/
theorem unpacked10BitYuvRowsTakeFields : Obligations.Unpacked10BitYuvRowsTakeFields := by
  refine ⟨unpackRowTakes (f := .v210) fun j r m a hp ha => ?v210,
    unpackRowTakes (f := .avid28) fun j r m a hp ha => ?avid28⟩
  case v210 =>
    simp only [extractOf, extractV210, allSome_tabulate_some, Option.some.injEq] at ha
    subst ha
    refine ⟨fits_v210 hp (fun _ => rfl) (fun _ => rfl) (fun _ => rfl), fun g hg => ?_⟩
    simp [nth_sixes hg, nth_threes hg, nth_tabulate _ hg, Nat.shiftRight_eq_div_pow]
  case avid28 =>
    simp only [extractOf, extractAvid28, allSome_tabulate_some, Option.some.injEq] at ha
    subst ha
    refine ⟨fits_pairs rfl hp _ _ _ _, fun k hk => ?_⟩
    simp only [nth_pairs hk, nth_tabulate _ hk, highBits_or_lowBits, Nat.shiftRight_eq_div_pow, Nat.mul_zero,
      Nat.reduceMul, Nat.reducePow, Nat.div_one, and_self]

end Sys2Proof.Machine
end

section
/-!
PROOFS. Unpacking a 4:2:0 layout ends with `ERR_COMBO` (44_format_codecs_yuv.md R143, R145; 60_exceptions.md R213, R217); O24.
-/

namespace Sys2Proof.Machine

/-- `Validate` of an UNPACK request of a 4:2:0 layout that has passed the checks before it (R191, R213). -/
theorem validate_of_unpack420 {c : ReqRegs} {f : Fmt} {q : ReqFields} (hf : f = .nv12 ∨ f = .yv12)
    (hop : c.reqOp = reqWord .unpack f q) (hq : q.legal = true) (hmode : decodeMode c.ditherCtl ≠ none)
    (htags : tagsBad c q.pfam = false) : validate c = some .combo := by
  obtain ⟨hdir, htag, hres⟩ := head_reqWord .unpack f q
  obtain ⟨⟨hcs, hdepth⟩, hsign⟩ : (q.csLegal = true ∧ q.depthLegal = true) ∧ q.signLegal = true := by
    simpa only [ReqFields.legal, Bool.and_eq_true] using hq
  simp [validate, hop, reqFields_reqWord, hdir, htag, hres, Laws.ofTag_tag, hcs, hdepth, hsign, hmode, htags, hf]

/-- START of an idle engine on registers that `Validate` refuses records the error (R190, R217). -/
theorem exec_start_of_invalid {s : State} {e : ErrCode} (hidle : s.busy = false) (hv : validate s.regs = some e)
    (clr ie : Bool) : exec (.start false clr ie) s
      = .next { s with ie := ie, busy := false, done := true, err := e, row := 0, cur := s.regs, tainted := false } := by
  have hprep : prepareLatched s.cmt s.regs = .error e := by simp [prepareLatched, hv]
  rw [exec_start_of_idle hidle]
  cases clr <;> simp [acceptStart, clrPart, iePart, hprep, takeConfigError, takeError, clearStatus]

/-- Settles O24: the fields, the mode and the tags pass, so the layout is what `Validate` finds, before the geometry. -/
theorem unpackPlanar420EndsWithCombo : Obligations.UnpackPlanar420EndsWithCombo := by
  intro q s clr ie hq
  refine ⟨fun f hf hidle hop hmode htags => ?_, fun hbusy hmode htags => ?_⟩
  · exact exec_start_of_invalid hidle (validate_of_unpack420 (by simpa using hf) hop hq hmode htags) clr ie
  · have hcombo {f : Fmt} (hf : f = .nv12 ∨ f = .yv12) :
        exec (reqInstr q .unpack f) s = .next { s with busy := false, done := true, err := .combo, row := 0 } := by
      have hv := validate_of_unpack420 (c := { s.cur with reqOp := reqWord .unpack f q }) hf rfl hq hmode htags
      rw [exec_noEntry hf, noEntryStep, hv, hbusy]
      rfl
    exact ⟨hcombo (.inl rfl), hcombo (.inr rfl)⟩

end Sys2Proof.Machine
end

section
/-!
PROOFS. The fill of a PACK row: its arrays have the frame's columns, and from the image's width on hold the fill values
(44_format_codecs_yuv.md R133; 42_chroma_resampler.md R103); O50.
-/

namespace Sys2Proof.Machine

/-! ### Widths -/

theorem geometryBad_of_prepare {t : Cmt} {d : Dir} {f : Fmt} {q : ReqFields} {c : ReqRegs} {j : Job}
    (h : prepare t d f q c = .ok j) : geometryBad j.c d f q.pfam = false := by
  obtain ⟨hv, -, -, -, hc, -⟩ := prepare_eq_ok h
  obtain ⟨hdir, htag, -⟩ := head_reqWord d f q
  obtain ⟨f', hf', -, hgeo⟩ := validate_eq_none hv
  have hff : f = f' := Option.some.inj ((Laws.ofTag_tag f).symm.trans (htag ▸ hf'))
  rwa [hdir, reqFields_reqWord, ← hff, ← hc] at hgeo

/-- The image row of a PACK request is no longer than the frame row (R192). -/
theorem width_le_frame {t : Cmt} {f : Fmt} {q : ReqFields} {c : ReqRegs} {j : Job} (h : prepare t .pack f q c = .ok j) :
    j.w ≤ j.fw := by
  have hgeo := geometryBad_of_prepare h
  simp only [geometryBad, Bool.or_eq_false_iff, Bool.and_eq_false_imp, decide_eq_true_eq, decide_eq_false_iff_not] at hgeo
  obtain ⟨⟨⟨-, hframe⟩, -⟩, -⟩ := hgeo
  exact Nat.not_lt.1 (hframe trivial)

/-- Every YUV layout has halved chroma and a period of whole pairs (R70). -/
theorem halfChroma_of_isYuv {f : Fmt} (h : (fmtKind f).isYuv = true) :
    (fmtKind f).halfChroma = true ∧ 2 ∣ fmtPeriod f := by
  revert h
  cases f <;> decide

theorem fullChroma_of_not_isYuv {k : Structure} (h : k.isYuv = false) : k.halfChroma = false := by
  revert h
  cases k <;> decide

theorem outer_of_pack {j : Job} (h : j.dir = .pack) : j.outer = j.kind := by simp only [Job.outer, h]

/-! ### The arrays before fill -/

/-- Without an output alpha the row has none (R206). -/
theorem a_exitRow_of_none (t : Act) {j : Job} (hfull : j.outer.halfChroma = false) (h : j.alphaOut = false) (r : Nat)
    (b : Rows) (ain : List Int) (ds : Draws) : (exitRow t j r b ain ds).1.a = [] := by
  rw [exitRow_fst]
  refine List.flatMap_eq_nil_iff.2 fun x _ => ?_
  rw [exitPixel_of_fullChroma t j r b ain ds x hfull]
  rcases colours_cases j.outer with hc | hc <;> simp [hc, h]

/-! ### Fill -/

/-- A row of `w` samples filled up to `n` has `n` samples, and the fill value from `w` on (R133). -/
theorem filled {l : List Nat} {w n : Nat} (hl : l.length = w) (hw : w ≤ n) (v : Nat) :
    (l ++ List.replicate (n - w) v).length = n
      ∧ ∀ x, w ≤ x → x < n → nth (l ++ List.replicate (n - w) v) x = v := by
  refine ⟨by simp [hl, hw], fun x hx hxn => ?_⟩
  rw [nth, List.getD_append_right _ _ _ _ (by omega), List.getD_replicate]
  omega

section
variable (t : Act) {j : Job} (r : Nat) (b : Rows) (ain : List Int) (ds : Draws)

/-- Luma, or the first colour, of a filled row. -/
theorem c0_fillRow (hw : j.w ≤ j.fw) :
    let l := (fillRow j r (exitRow t j r b ain ds).1).c0
    l.length = j.fw ∧ ∀ x, j.w ≤ x → x < j.fw → nth l x = fillValue j true :=
  filled (by rw [c0_exitRow, tabulate_length]) hw _

/-- Halved chroma of a filled row that keeps it: half the columns of the frame (R133). -/
theorem chroma_fillRow_of_halfChroma (hdir : j.dir = .pack) (hhalf : j.kind.halfChroma = true) (hw : j.w ≤ j.fw)
    (heven : j.w % 2 = 0) (hkept : j.chromaKept r = 1) :
    let o := fillRow j r (exitRow t j r b ain ds).1
    o.c1.length = j.fw / 2 ∧ o.c2.length = j.fw / 2
      ∧ ∀ i, j.w / 2 ≤ i → i < j.fw / 2 → nth o.c1 i = fillValue j false ∧ nth o.c2 i = fillValue j false := by
  have hlen : (j.w + 1) / 2 = j.w / 2 := by omega
  have hle : j.w / 2 ≤ j.fw / 2 := Nat.div_le_div_right hw
  obtain ⟨hc1, hc2⟩ := chroma_exitRow_of_halfChroma t j r b ain ds (outer_of_pack hdir ▸ hhalf) hkept
  have hcols1 : (exitRow t j r b ain ds).1.c1.length = j.w / 2 := by rw [hc1, tabulate_length, hlen]
  obtain ⟨hlen1, hfill1⟩ := filled hcols1 hle (fillValue j false)
  have hcols2 : (exitRow t j r b ain ds).1.c2.length = j.w / 2 := by rw [hc2, tabulate_length, hlen]
  obtain ⟨hlen2, hfill2⟩ := filled hcols2 hle (fillValue j false)
  simp only [fillRow, hhalf, (chromaRowKept_iff j r).2 hkept, Bool.not_true, Bool.false_eq_true, if_false, if_true]
  exact ⟨hlen1, hlen2, fun i hi hlt => ⟨hfill1 i hi hlt, hfill2 i hi hlt⟩⟩

/-- An even row of a 4:2:0 layout has no chroma, filled or not (R103, R133). -/
theorem chroma_fillRow_of_dropped (hhalf : j.kind.halfChroma = true) (hkept : j.chromaKept r = 0) :
    (fillRow j r (exitRow t j r b ain ds).1).c1 = [] ∧ (fillRow j r (exitRow t j r b ain ds).1).c2 = [] := by
  have hrow : j.chromaRowKept r = false := by rw [← Bool.not_eq_true, chromaRowKept_iff, hkept]; decide
  obtain ⟨hc1, hc2⟩ := chroma_exitRow_of_dropped t j r b ain ds hkept
  simp [fillRow, hhalf, hrow, hc1, hc2]

/-- The second and third colours of a filled row. -/
theorem chroma_fillRow_of_fullChroma (hdir : j.dir = .pack) (hfull : j.kind.halfChroma = false) (hw : j.w ≤ j.fw) :
    let o := fillRow j r (exitRow t j r b ain ds).1
    o.c1.length = j.fw ∧ o.c2.length = j.fw
      ∧ ∀ x, j.w ≤ x → x < j.fw → nth o.c1 x = fillValue j false ∧ nth o.c2 x = fillValue j false := by
  obtain ⟨hc1, hc2⟩ := chroma_exitRow_of_fullChroma t j r b ain ds (outer_of_pack hdir ▸ hfull)
  have hcols1 : (exitRow t j r b ain ds).1.c1.length = j.w := by rw [hc1, tabulate_length]
  obtain ⟨hlen1, hfill1⟩ := filled hcols1 hw (fillValue j false)
  have hcols2 : (exitRow t j r b ain ds).1.c2.length = j.w := by rw [hc2, tabulate_length]
  obtain ⟨hlen2, hfill2⟩ := filled hcols2 hw (fillValue j false)
  simp only [fillRow, hfull, Bool.not_false, if_true]
  exact ⟨hlen1, hlen2, fun x hx hlt => ⟨hfill1 x hx hlt, hfill2 x hx hlt⟩⟩

/-- The alpha of a filled row: transparent from the image's width on, and none in a layout without alpha (R133, R206). -/
theorem a_fillRow (hdir : j.dir = .pack) (hfull : j.kind.halfChroma = false) (hw : j.w ≤ j.fw) :
    let l := (fillRow j r (exitRow t j r b ain ds).1).a
    (j.kind = .rgba → l.length = j.fw ∧ ∀ x, j.w ≤ x → x < j.fw → nth l x = 0) ∧ (j.kind ≠ .rgba → l = []) := by
  have halpha : j.alphaOut = decide (j.kind = .rgba) := by rw [alphaOut_eq, outer_of_pack hdir]
  refine ⟨fun hkind => ?_, fun hkind => ?_⟩
  · have hout : j.alphaOut = true := by simp [halpha, hkind]
    simp only [fillRow, hout, if_true]
    exact filled (by rw [a_exitRow t j r b ain ds hout, tabulate_length]) hw 0
  · have hout : j.alphaOut = false := by simp [halpha, hkind]
    simp [fillRow, hout, a_exitRow_of_none t (outer_of_pack hdir ▸ hfull) hout r b ain ds]

end

/-! ### The obligation -/

/-- Settles O50: the arrays of the exit stage have the image's columns, and fill adds the rest of the frame's. -/
theorem fillExtendsRowsToFrameWidth : Obligations.FillExtendsRowsToFrameWidth := by
  intro f q c s j r o ds hj hout
  obtain ⟨-, hdir, rfl, -⟩ := prepare_eq_ok hj
  obtain ⟨⟨a, ain⟩, -, hrow⟩ := Option.map_eq_some_iff.1 hout
  obtain ⟨rfl, -⟩ := Prod.mk.inj hrow
  have hw := width_le_frame hj
  obtain ⟨-, hal⟩ := prepare_served_aligned hj
  generalize convert s.cmt.c709 j (enterRows j a) = b
  have hkept : j.chromaKept r = if j.kind ≠ .yuv420 ∨ r % 2 = 1 then 1 else 0 := by
    rw [Job.chromaKept, outer_of_pack hdir]
  obtain ⟨hlen0, hfill0⟩ := c0_fillRow s.act r b ain s.draws hw
  refine ⟨fun hyuv => ?yuv, fun hrgb => ?rgb⟩
  case yuv =>
    obtain ⟨hhalf, hperiod⟩ := halfChroma_of_isYuv hyuv
    have heven : j.w % 2 = 0 := Nat.mod_eq_zero_of_dvd (hperiod.trans (Nat.dvd_of_mod_eq_zero hal.width))
    have hluma : fillValue j true = 16 * 2 ^ (j.dext - 8) := by simp [fillValue, hyuv]
    have hchroma : fillValue j false = 128 * 2 ^ (j.dext - 8) := by simp [fillValue, hyuv]
    rw [← hluma, ← hchroma]
    refine ⟨hlen0, hfill0, fun hkind hrow => ?_, fun hrow => ?_⟩
    · exact chroma_fillRow_of_dropped s.act r b ain s.draws hhalf (hkept.trans (by simp [hkind, hrow]))
    · exact chroma_fillRow_of_halfChroma s.act r b ain s.draws hdir hhalf hw heven (hkept.trans (if_pos hrow))
  case rgb =>
    have hfull := fullChroma_of_not_isYuv hrgb
    have hzero (luma : Bool) : fillValue j luma = 0 := by simp [fillValue, hrgb]
    obtain ⟨hlen1, hlen2, hcolours⟩ := chroma_fillRow_of_fullChroma s.act r b ain s.draws hdir hfull hw
    obtain ⟨halpha, hnone⟩ := a_fillRow s.act r b ain s.draws hdir hfull hw
    simp only [hzero] at hfill0 hcolours
    exact ⟨hlen0, hlen1, hlen2, fun x hx hlt => ⟨hfill0 x hx hlt, hcolours x hx hlt⟩, halpha,
      fun hkind => hnone (by rw [hkind]; decide)⟩

end Sys2Proof.Machine
end

section
/-!
PROOFS. The byte swap byte by byte, and that reading a word most significant byte first is swapping its little-endian value
(45_format_codecs_rgb.md R186; 20_memory.md R41); O58.
-/

namespace Sys2Proof.Machine

/-! ### Bytes of a swapped word -/

/-- Byte `3 - i` of the swapped word is byte `i` of the word (R186). -/
theorem byte_bswap32 (w : Nat) {i : Nat} (hi : i < 4) : bswap32 w / 256 ^ (3 - i) % 256 = w / 256 ^ i % 256 := by
  have hpow (n : Nat) : 256 ^ n = 2 ^ (8 * n) := (Nat.pow_mul 2 8 n).symm
  refine Nat.eq_of_testBit_eq fun b => ?_
  rw [hpow, hpow, show 256 = 2 ^ 8 from rfl]
  simp only [Nat.testBit_mod_two_pow, Nat.testBit_div_two_pow]
  rcases Nat.lt_or_ge b 8 with hb | hb
  · rw [testBit_bswap32 w (by omega)]
    congr 2
    omega
  · simp [Nat.not_lt.2 hb]

/-- Settles O58: a bit of byte `i` of the word is the same bit of byte `3 - i` of the swapped word. -/
theorem byteSwapReversesBytes : Obligations.ByteSwapReversesBytes := fun w hw =>
  ⟨bswap32_lt w, bswap32_bswap32 hw, fun _ hi => byte_bswap32 w hi⟩

/-! ### Words read most significant byte first -/

/-- The integer that the four bytes from address `a` compose to with the most significant byte at the lowest address (R186). -/
def bytesBe (m : Memory) (a : Int) : Nat :=
  bytesAt m a 1 * 2 ^ 24 + bytesAt m (a + 1) 1 * 2 ^ 16 + bytesAt m (a + 2) 1 * 2 ^ 8 + bytesAt m (a + 3) 1

theorem bytesAt_one (m : Memory) (a : Int) : bytesAt m a 1 = (loadByte m a.toNat).toNat := by
  simp [bytesAt, tabulate, leValue]

/-- The bytes of a word, lowest address first, are its digits to base 256 (R41). -/
theorem bytesAt_four (m : Memory) {a : Int} (ha : 0 ≤ a) :
    bytesAt m a 4 = bytesAt m a 1 + bytesAt m (a + 1) 1 * 2 ^ 8 + bytesAt m (a + 2) 1 * 2 ^ 16
      + bytesAt m (a + 3) 1 * 2 ^ 24 := by
  have hnext (i : Nat) : (a + i).toNat = a.toNat + i := by omega
  have h1 := hnext 1
  have h2 := hnext 2
  have h3 := hnext 3
  push_cast at h1 h2 h3
  simp only [bytesAt_one, h1, h2, h3]
  simp only [bytesAt, tabulate, List.range_succ, List.range_zero, List.nil_append, List.cons_append, List.map_cons,
    List.map_nil, leValue, Nat.add_zero]
  ring

theorem bytesAt_one_lt (m : Memory) (a : Int) : bytesAt m a 1 < 256 := bytesAt_one m a ▸ (loadByte m a.toNat).isLt

/-- The swapped word has the digits of the word to base 256 in the opposite order (R186). -/
theorem bswap32_digits {b0 b1 b2 b3 : Nat} (h0 : b0 < 256) (h1 : b1 < 256) (h2 : b2 < 256) (h3 : b3 < 256) :
    bswap32 (b0 + b1 * 2 ^ 8 + b2 * 2 ^ 16 + b3 * 2 ^ 24) = b0 * 2 ^ 24 + b1 * 2 ^ 16 + b2 * 2 ^ 8 + b3 := by
  generalize hw : b0 + b1 * 2 ^ 8 + b2 * 2 ^ 16 + b3 * 2 ^ 24 = w
  obtain ⟨hd0, hd1, hd2, hd3⟩ : w / 256 ^ 0 % 256 = b0 ∧ w / 256 ^ 1 % 256 = b1 ∧ w / 256 ^ 2 % 256 = b2
      ∧ w / 256 ^ 3 % 256 = b3 := by omega
  rw [← byte_bswap32 w (by decide)] at hd0 hd1 hd2 hd3
  have hlt := bswap32_lt w
  clear hw
  omega

/-- A word read most significant byte first is the byte swap of its little-endian value (R186). -/
theorem bytesBe_eq_bswap32 (m : Memory) {a : Int} (ha : 0 ≤ a) : bytesBe m a = bswap32 (bytesAt m a 4) := by
  rw [bytesAt_four m ha, bswap32_digits (bytesAt_one_lt m _) (bytesAt_one_lt m _) (bytesAt_one_lt m _) (bytesAt_one_lt m _)]
  rfl

/-- An answered external row in buffer 0 has no negative address (R41, R131). -/
theorem nonneg_of_spansOk {p : Platform} {j : Job} (hs : singleBuffer j.fmt = true) {n r i : Nat}
    (hok : SpansOk p (extSpans j n r)) (hi : i < rowBytes n j.fmt) : 0 ≤ extRow j 0 r + i := by
  rw [extSpans_of_singleBuffer hs] at hok
  exact (accessOk_bounds (hok _ (List.mem_singleton.2 rfl) i hi)).1

end Sys2Proof.Machine
end

section
/-!
PROOFS. PACK rows of the RGB layouts: a row that can run places its output samples, each layout's at the bytes its rule names
(45_format_codecs_rgb.md R160 to R186); O35, O36, O37.
-/

namespace Sys2Proof.Machine

/-- Settles O35: the rule of each layout, read back write by write. -/
theorem packedRgbRowsPlaceSamples : Obligations.PackedRgbRowsPlaceSamples := by
  refine ⟨packRowPlaces (f := .rgb24) fun j r o m _ hmem => ?rgb24, packRowPlaces (f := .rgb32) fun j r o m _ hmem => ?rgb32,
    packRowPlaces (f := .rgba32) fun j r o m _ hmem => ?rgba32, packRowPlaces (f := .rgb48) fun j r o m _ hmem => ?rgb48,
    packRowPlaces (f := .rgba64) fun j r o m _ hmem => ?rgba64, packRowPlaces (f := .bgra64) fun j r o m _ hmem => ?bgra64⟩
  case rgb24 | rgb32 | rgba32 | rgb48 | rgba64 | bgra64 =>
    simpa only [placeOf, placeRgb24, placeRgb32, placeRgba32, placeRgb48, placeRgba64, placeBgra64, forall_mem_blocks,
      List.forall_mem_cons, List.not_mem_nil, false_implies, implies_true, and_true] using hmem

/-- Settles O37: the writes of each group, one pixel after the other. -/
theorem packed8PixelRowsPlaceSamples : Obligations.Packed8PixelRowsPlaceSamples := by
  refine ⟨packRowPlaces (f := .rgb8p) fun j r o m _ hmem => ?rgb8p, packRowPlaces (f := .rgba8p) fun j r o m _ hmem => ?rgba8p⟩
  case rgb8p | rgba8p =>
    simp only [placeOf, placeRgb8p, placeRgba8p, forall_mem_blocks, List.forall_mem_cons, List.not_mem_nil, false_implies,
      implies_true, and_true] at hmem
    exact fun g i hg hi => hmem g hg i hi

/-! ### Big-endian words -/

/-- A layout of one 32-bit word a pixel whose rule writes the swapped words has them most significant byte first (R178, R180,
R186): a row that runs lies inside the space. -/
theorem PackRowPlaces.bigEndian {i : ReqFields → Instr} {f : Fmt} {word : Arrays → Nat → Nat} (hs : singleBuffer f = true)
    (hbytes : ∀ n, rowBytes n f = 4 * n)
    (h : PackRowPlaces i f fun j r o m => ∀ x : Nat, x < j.fw →
      word o x < 2 ^ 32 ∧ bytesAt m (extRow j 0 r + 4 * x) 4 = bswap32 (word o x)) :
    PackRowPlaces i f fun j r o m => ∀ x : Nat, x < j.fw → bytesBe m (extRow j 0 r + 4 * x) = word o x := by
  intro q s j hruns
  obtain ⟨o, ds, t, hout, hexec, hframe, hdstate, hplaced⟩ := h q s j hruns
  refine ⟨o, ds, t, hout, hexec, hframe, hdstate, fun hdisjoint x hx => ?_⟩
  obtain ⟨-, -, hj, -, -, hwrites⟩ := hruns
  obtain ⟨-, hdir, rfl, -⟩ := prepare_eq_ok hj
  simp only [rowWrites, hdir] at hwrites
  have hnonneg := nonneg_of_spansOk hs hwrites (i := 4 * x) (by rw [hbytes]; omega)
  push_cast at hnonneg
  obtain ⟨hlt, hword⟩ := hplaced hdisjoint x hx
  rw [bytesBe_eq_bswap32 _ hnonneg, hword, bswap32_bswap32 hlt]

/-- The word of `DPX0` as a number (R180). -/
theorem dpxWord_eq_add {b c : Nat} (hb : b < 2 ^ 10) (hc : c < 2 ^ 10) (a : Nat) :
    a <<< 22 ||| b <<< 12 ||| c <<< 2 = a * 2 ^ 22 + b * 2 ^ 12 + c * 2 ^ 2 := by
  rw [dpxWord_eq, word10_eq_add hc hb, Nat.shiftLeft_eq]
  ring

/-- Settles O36: the words as numbers, those of R210 and DPX0 behind the byte swap. -/
theorem packed10BitRgbRowsPlaceSamples : Obligations.Packed10BitRgbRowsPlaceSamples := by
  refine ⟨packRowPlaces (f := .rg30) fun j r o m hlt hmem => ?rg30, packRowPlaces (f := .ab10) fun j r o m hlt hmem => ?ab10,
    packRowPlaces (f := .ar10) fun j r o m hlt hmem => ?ar10,
    .bigEndian rfl (fun _ => rfl) (packRowPlaces (f := .r210) fun j r o m hlt hmem => ?r210),
    .bigEndian rfl (fun _ => rfl) (packRowPlaces (f := .dpx0) fun j r o m hlt hmem => ?dpx0)⟩ <;>
  obtain ⟨h0, h1, h2, -⟩ := hlt
  case rg30 | ab10 =>
    simpa only [placeOf, placeRg30, placeAb10, forall_mem_tiles, word10_eq_add (h0 _) (h1 _)] using hmem
  case ar10 => simpa only [placeOf, placeAr10, forall_mem_tiles, word10_eq_add (h2 _) (h1 _)] using hmem
  case r210 =>
    simp only [placeOf, placeR210, forall_mem_tiles] at hmem
    intro x hx
    rw [← word10_eq_add (h2 x) (h1 x)]
    exact ⟨word10_lt (h2 x) (h1 x) (h0 x), hmem x hx⟩
  case dpx0 =>
    simp only [placeOf, placeDpx0, forall_mem_tiles] at hmem
    intro x hx
    rw [← dpxWord_eq_add (h1 x) (h2 x)]
    exact ⟨dpxWord_lt (h0 x) (h1 x) (h2 x), hmem x hx⟩

end Sys2Proof.Machine
end

section
/-!
PROOFS. UNPACK rows of the RGB layouts: a row that can run takes the fields its layout's rule names, and the planes then hold
the output samples (45_format_codecs_rgb.md R161 to R186; 46_row_driver.md R195); O40, O41, O42.
-/

namespace Sys2Proof.Machine

/-! ### Lengths of the arrays -/

/-- Arrays of an RGB layout fit a row of `w` pixels where each channel has `w` samples (R130). -/
theorem fits_rgb {f : Fmt} (hf : (fmtKind f).isYuv = false) {w : Nat} {c0 c1 c2 a : List Nat} (h0 : c0.length = w)
    (h1 : c1.length = w) (h2 : c2.length = w) (ha : a.length = if fmtKind f = .rgba then w else 0) :
    Arrays.fits ⟨c0, c1, c2, a⟩ f w := by
  have hcols : ncols (fmtKind f) w .u = w := by simp [ncols, fullChroma_of_not_isYuv hf]
  exact ⟨h0, h1.trans hcols.symm, h2.trans hcols.symm, ha⟩

/-- Settles O40: each array tabulates the reads at its channel's bytes. -/
theorem unpackedRgbRowsTakeFields : Obligations.UnpackedRgbRowsTakeFields := by
  refine ⟨unpackRowTakes (f := .rgb24) fun j r m a _ ha => ?rgb24, unpackRowTakes (f := .rgb32) fun j r m a _ ha => ?rgb32,
    unpackRowTakes (f := .rgba32) fun j r m a _ ha => ?rgba32, unpackRowTakes (f := .rgb48) fun j r m a _ ha => ?rgb48,
    unpackRowTakes (f := .rgba64) fun j r m a _ ha => ?rgba64, unpackRowTakes (f := .bgra64) fun j r m a _ ha => ?bgra64⟩
  case rgb24 | rgb32 | rgba32 | rgb48 | rgba64 | bgra64 =>
    simp only [extractOf, extractRgb24, extractRgb32, extractRgba32, extractRgb48, extractRgba64, extractBgra64,
      allSome_tabulate_some, arrays3, arrays4, Option.map_some, Option.some.injEq] at ha
    subst ha
    exact ⟨fits_rgb rfl (tabulate_length _ _) (tabulate_length _ _) (tabulate_length _ _) (by simp [fmtKind]),
      fun x hx => by simp only [nth_tabulate _ hx, and_self]⟩

/-! ### Groups of eight pixels -/

theorem length_eights {w : Nat} (hw : w % 8 = 0) (f : Nat → Nat → Nat) :
    ((List.range (w / 8)).flatMap fun g => tabulate 8 (f g)).length = w :=
  (length_flatMap_groups (c := 8) fun _ => tabulate_length _ _).trans (by omega)

/-- Sample `i` of group `g` (R183, R185). -/
theorem nth_eights {n g i : Nat} (hg : g < n) (hi : i < 8) (f : Nat → Nat → Nat) :
    nth ((List.range n).flatMap fun g => tabulate 8 (f g)) (8 * g + i) = f g i := by
  rw [nth_flatMap_groups (fun _ => tabulate_length _ _) hg hi, nth_tabulate _ hi]

/-- Settles O42: each array is made of groups of eight reads. -/
theorem unpacked8PixelRowsTakeFields : Obligations.Unpacked8PixelRowsTakeFields := by
  refine ⟨unpackRowTakes (f := .rgb8p) fun j r m a hp ha => ?rgb8p,
    unpackRowTakes (f := .rgba8p) fun j r m a hp ha => ?rgba8p⟩
  case rgb8p | rgba8p =>
    simp only [extractOf, extractRgb8p, extractRgba8p, allSome_groups_some, arrays3, arrays4, Option.some.injEq] at ha
    subst ha
    exact ⟨fits_rgb rfl (length_eights hp _) (length_eights hp _) (length_eights hp _) (by simp [fmtKind, length_eights hp]),
      fun g i hg hi => by simp only [nth_eights hg hi, and_self]⟩

/-! ### Big-endian words -/

/-- A layout of one 32-bit word a pixel whose rule takes the fields of the swapped words takes those of the words read most
significant byte first (R179, R181, R186). -/
theorem UnpackRowTakes.bigEndian {i : ReqFields → Instr} {f : Fmt} {Takes : Arrays → Nat → Nat → Prop}
    (hs : singleBuffer f = true) (hbytes : ∀ n, rowBytes n f = 4 * n)
    (h : UnpackRowTakes i f fun j r m a => a.fits f j.w ∧ ∀ x : Nat, x < j.w →
      Takes a x (bswap32 (bytesAt m (extRow j 0 r + 4 * x) 4))) :
    UnpackRowTakes i f fun j r m a => a.fits f j.w ∧ ∀ x : Nat, x < j.w →
      Takes a x (bytesBe m (extRow j 0 r + 4 * x)) := by
  intro q s j hruns
  obtain ⟨a, t, ⟨hfits, htakes⟩, hrow⟩ := h q s j hruns
  refine ⟨a, t, ⟨hfits, fun x hx => ?_⟩, hrow⟩
  obtain ⟨-, -, hj, -, hreads, -⟩ := hruns
  obtain ⟨-, hdir, rfl, -⟩ := prepare_eq_ok hj
  simp only [rowReads, hdir] at hreads
  have hnonneg := nonneg_of_spansOk hs hreads (i := 4 * x) (by rw [hbytes]; omega)
  push_cast at hnonneg
  rw [bytesBe_eq_bswap32 _ hnonneg]
  exact htakes x hx

/-- Settles O41: the fields of each pixel's word, those of R210 and DPX0 behind the byte swap. -/
theorem unpacked10BitRgbRowsTakeFields : Obligations.Unpacked10BitRgbRowsTakeFields := by
  unfold Obligations.Unpacked10BitRgbRowsTakeFields
  intro _ at10
  refine ⟨unpackRowTakes (f := .rg30) fun j r m a _ ha => ?rg30, unpackRowTakes (f := .ab10) fun j r m a _ ha => ?ab10,
    unpackRowTakes (f := .ar10) fun j r m a _ ha => ?ar10,
    .bigEndian (Takes := fun a x w => nth a.c2 x = at10 w 0 ∧ nth a.c1 x = at10 w 10 ∧ nth a.c0 x = at10 w 20) rfl
      (fun _ => rfl) (unpackRowTakes (f := .r210) fun j r m a _ ha => ?r210),
    .bigEndian (Takes := fun a x w => nth a.c0 x = at10 w 22 ∧ nth a.c1 x = at10 w 12 ∧ nth a.c2 x = at10 w 2) rfl
      (fun _ => rfl) (unpackRowTakes (f := .dpx0) fun j r m a _ ha => ?dpx0)⟩
  case rg30 | ab10 | ar10 | r210 | dpx0 =>
    simp only [extractOf, extractRg30, extractAb10, extractAr10, extractR210, extractDpx0, allSome_tabulate_some,
      Option.map_some, map_tabulate, Option.some.injEq] at ha
    subst ha
    exact ⟨fits_rgb rfl (tabulate_length _ _) (tabulate_length _ _) (tabulate_length _ _) (by simp [fmtKind]),
      fun x hx => by simp only [at10, nth_tabulate _ hx, Nat.shiftRight_eq_div_pow, and_self]⟩

end Sys2Proof.Machine
end

section
/-!
PROOFS. The turns of the engine and of a host write: which instruction they run, and what a write does while the engine is
busy (10_state.md R12; 46_row_driver.md R193, R200, R202); O9 and O19.
-/

namespace Sys2Proof.Machine

/-! ### Host writes while busy -/

/-- A command given to a busy engine is ignored, with its `IE` bit (R202). -/
theorem exec_command_of_busy {v : Word} {i : Instr} {s : State} (hd : decode .command v = some i) (hb : s.busy = true) :
    exec i s = .next s := by
  simp only [decode, decodeCommand] at hd
  split at hd
  · cases hd; exact if_pos hb
  split at hd
  · cases hd; exact if_pos hb
  split at hd <;> cases hd
  exact if_pos hb

/-- A word written to `CTRL` runs the command it carries (R12, R72). -/
theorem step_ctrlWrite {s : State} {a v : Word} {i : Instr} {rest : List HostAct} (hrst : s.rst = false)
    (hhead : s.host = .regWrite a .word v :: rest) (hreg : regOf s.platform a .word = some .ctrl)
    (hd : decode .command v = some i) : step s = exec i { s with host := rest } := by
  simp [step, fetch, fetchCommand, hhead, hreg, hrst, hd]

/-- Settles O9: a command is ignored by its meaning, and any other word by the register write. -/
theorem writesWhileBusyAreIgnored : Obligations.WritesWhileBusyAreIgnored := by
  intro s a v r rest hb hrst hhead hreg
  by_cases hcommand : r = .ctrl ∧ decode .command v ≠ none
  · obtain ⟨rfl, hsome⟩ := hcommand
    obtain ⟨i, hd⟩ := Option.ne_none_iff_exists'.1 hsome
    rw [step_ctrlWrite hrst hhead hreg hd]
    exact exec_command_of_busy hd hb
  · have hplain : r ≠ .ctrl ∨ v &&& 7 = 0 := by
      rw [not_and_or, not_not] at hcommand
      exact hcommand.imp_right and_seven_eq_zero_of_decode
    rw [step_regWrite hrst hhead hreg hplain, writeReg_of_busy (s := { s with host := rest }) hb]

/-! ### The engine's turn -/

/-- While busy and out of reset, the engine's turn runs the request its latched word names (R193, R200). -/
theorem fetchRequest_of_busy {s : State} {i : Instr} (hb : s.busy = true) (hrst : s.rst = false)
    (hd : decode .request s.cur.reqOp = some i) : fetchRequest s = some i := by
  simp [fetchRequest, hb, hrst, hd]

/-- Settles O19: each kind of the engine's turn fetches the latched request, and a write to `CTRL` its command. -/
theorem stepRunsDecodedInstruction : Obligations.StepRunsDecodedInstruction := by
  refine ⟨fun s i rest hb hrst hd => ?_, fun s i a v rest hrst hhead hreg hd => step_ctrlWrite hrst hhead hreg hd⟩
  have hfetch := fetchRequest_of_busy hb hrst hd
  refine ⟨fun hhead => ?_, fun hhead => ?_, fun hhead hdone => ?_⟩
  · simp [step, fetch, hhead, hfetch]
  · simp [step, fetch, hhead, hfetch]
  · simp [step, fetch, hhead, hdone, hfetch]

end Sys2Proof.Machine
end

section
/-!
PROOFS. The end of a request whose rows are done (46_row_driver.md R193, R196, R201); O20.
-/

namespace Sys2Proof.Machine

/-- Where the footprints are disjoint and duty 3 of R236 was kept, the end of a request leaves memory as it is (R54). -/
theorem settle_of_disjoint {j : Job} {s : State} (ho : overlaps j = false) (ht : s.tainted = false) : settle j s = s := by
  simp [settle, ho, ht]

/-- Settles O20: a valid request is one the table serves, and past its last row the engine's step is the completion. -/
theorem requestCompletesAfterItsRows : Obligations.RequestCompletesAfterItsRows := by
  intro d f q s j hb hj hrows ho ht
  have hserved := (prepare_served_aligned hj).1
  have hstep : requestStep (rowOf d f) d f q s = .next (settle j (complete s)) := by
    simp [requestStep, hb, hj, Nat.not_lt.2 hrows]
  rw [exec_served hserved, hstep, settle_of_disjoint (s := complete s) ho ht]
  rfl

end Sys2Proof.Machine
end

section
/-!
PROOFS. `Validate` as the chain of its four errors, and each error's causes read from the bits of the latched registers
(30_encoding.md R61 to R70; 46_row_driver.md R191, R192); O12.
-/

namespace Sys2Proof.Machine

/-! ### The chain -/

/-- The causes of `ERR_FMT` (R191 step 2): a reserved bit or tag, an illegal depth or sign, the reserved mode, or a channel
of the family without exactly one slot. -/
def ReqRegs.FmtError (c : ReqRegs) : Prop :=
  reqReservedZero c.reqOp = false ∨ Fmt.ofTag (slice c.reqOp 0 6) = none ∨ (reqFields c.reqOp).depthLegal = false
    ∨ (reqFields c.reqOp).signLegal = false ∨ decodeMode c.ditherCtl = none ∨ tagsBad c (reqFields c.reqOp).pfam = true

section
variable {c : ReqRegs}

theorem validate_of_csIllegal (hcs : (reqFields c.reqOp).csLegal = false) : validate c = some .csd := by
  simp [validate, hcs]

theorem validate_of_fmtError (hcs : (reqFields c.reqOp).csLegal = true) (h : c.FmtError) : validate c = some .fmt := by
  unfold validate
  cases hf : Fmt.ofTag (slice c.reqOp 0 6) with
  | none => simp [hcs]
  | some f =>
    rcases h with h | h | h | h | h | h
    · simp [hcs, h]
    · rw [hf] at h; cases h
    all_goals simp +contextual [hcs, h]

/-- With legal fields, mode and tags, what is left is the direction and the geometry (R191 steps 3 and 4). -/
theorem validate_of_not_fmtError (hcs : (reqFields c.reqOp).csLegal = true) (h : ¬ c.FmtError) {f : Fmt}
    (hf : Fmt.ofTag (slice c.reqOp 0 6) = some f) :
    validate c = if reqDir c.reqOp = .unpack ∧ (f = .nv12 ∨ f = .yv12) then some .combo
      else if geometryBad c (reqDir c.reqOp) f (reqFields c.reqOp).pfam = true then some .roi else none := by
  simp only [ReqRegs.FmtError, not_or, Bool.not_eq_false, Bool.not_eq_true] at h
  obtain ⟨hres, -, hdepth, hsign, hmode, htags⟩ := h
  simp [validate, hcs, hres, hf, hdepth, hsign, hmode, htags]

end

/-! ### Fields as numbers -/

/-- The colour standard is one of four codes (R64). -/
theorem csLegal_reqFields (w : Word) : (reqFields w).csLegal = true ↔ slice w 8 3 ∈ [1, 2, 5, 6] := by
  have hcodes : ∀ b : BitVec 3, (b = 1 ∨ b = 2 ∨ b = 5 ∨ b = 6) ↔ b.toNat ∈ [1, 2, 5, 6] := by decide
  have hfield : (reqFields w).cs.toNat = slice w 8 3 := by simp [reqFields, slice]
  rw [← hfield, ← hcodes]
  simp [ReqFields.csLegal, or_assoc]

theorem toNat_pdepth_reqFields (w : Word) : (reqFields w).pdepth.toNat = slice w 16 3 := by simp [reqFields, slice]

/-- The depth code is below 5 (R67). -/
theorem depthLegal_reqFields (w : Word) : (reqFields w).depthLegal = false ↔ 5 ≤ slice w 16 3 := by
  rw [← toNat_pdepth_reqFields]
  simp [ReqFields.depthLegal]

/-- Signed samples have 12 or 13 bits (R67). -/
theorem signLegal_reqFields (w : Word) : (reqFields w).signLegal = false ↔ bitAt w 19 = true ∧ slice w 16 3 ∉ [2, 3] := by
  have hcodes : ∀ b : BitVec 3, (b = 2 ∨ b = 3) ↔ b.toNat ∈ [2, 3] := by decide
  rw [← toNat_pdepth_reqFields, ← hcodes]
  simp only [ReqFields.signLegal, Bool.or_eq_false_iff, Bool.not_eq_false', decide_eq_false_iff_not, not_or, and_assoc]
  rfl

/-- Mode 3 is reserved (R17). -/
theorem decodeMode_eq_none_iff (w : Word) : decodeMode w = none ↔ slice w 0 2 = 3 := by
  have hlt : slice w 0 2 < 4 := Nat.mod_lt _ (by decide)
  unfold decodeMode
  generalize slice w 0 2 = n at hlt ⊢
  interval_cases n <;> simp

/-- The tags that a family needs are those of its channels (R20, R66). -/
theorem neededTags_eq (fam : Family) : neededTags fam.code = (familyChans fam).map Chan.tag := by cases fam <;> rfl

theorem periodOfTag_tag (f : Fmt) : periodOfTag f.tag = fmtPeriod f := by cases f <;> rfl

/-- The 4:2:0 layouts are those of tags 18 and 19 (R62, R70). -/
theorem yuv420_iff_tag (f : Fmt) : (f = .nv12 ∨ f = .yv12 ↔ f.tag = 18 ∨ f.tag = 19)
    ∧ (fmtKind f = .yuv420 ↔ f.tag = 18 ∨ f.tag = 19) := by
  cases f <;> decide

theorem widthMultiple_eq (fam : Family) (f : Fmt) :
    widthMultiple fam f = if fam.code = 0 then Nat.lcm (fmtPeriod f) 2 else fmtPeriod f := by
  cases fam <;> rfl

/-! ### The slots of a channel -/

/-- One entry of a vector counts where there is exactly one index that has the property. -/
theorem countP_toList_eq_one_iff {α : Type} {n : Nat} (xs : Vector α n) (p : α → Prop) [DecidablePred p] :
    (xs.toList.countP fun x => p x) = 1 ↔ ∃! i : Fin n, p xs[i] := by
  have hlist : xs.toList = (List.finRange n).map fun i => xs[i] := by
    refine List.ext_getElem (by simp) fun k _ _ => by simp
  rw [Fintype.existsUnique_iff_card_one, hlist, List.countP_map, List.countP_eq_length_filter]
  rfl

/-- A family's tags are bad where one of them is not on exactly one slot (R191 step 2). -/
theorem tagsBad_iff (c : ReqRegs) (fam : Family) :
    tagsBad c fam = true ↔ ∃ t ∈ neededTags fam.code, ¬ ∃! i : Fin 4, slice c.planeTag[i] 0 3 = t := by
  have hcount (ch : Chan) : tagCount c ch = 1 ↔ ∃! i : Fin 4, slice c.planeTag[i] 0 3 = ch.tag :=
    countP_toList_eq_one_iff c.planeTag fun w => tagOf w = ch.tag
  simp [tagsBad, neededTags_eq, hcount]

/-! ### The obligation -/

/-- The chain over any causes that are those of the four errors; from the third error on the tag names a layout. -/
theorem validate_chain {c : ReqRegs} {csBad fmtBad comboBad roiBad : Prop}
    (hcs : csBad ↔ (reqFields c.reqOp).csLegal = false) (hfmt : fmtBad ↔ c.FmtError)
    (hcombo : ∀ f, Fmt.ofTag (slice c.reqOp 0 6) = some f →
      (comboBad ↔ reqDir c.reqOp = .unpack ∧ (f = .nv12 ∨ f = .yv12)))
    (hroi : ∀ f, Fmt.ofTag (slice c.reqOp 0 6) = some f →
      (roiBad ↔ geometryBad c (reqDir c.reqOp) f (reqFields c.reqOp).pfam = true)) :
    (csBad → validate c = some .csd)
      ∧ (¬ csBad → fmtBad → validate c = some .fmt)
      ∧ (¬ csBad → ¬ fmtBad → comboBad → validate c = some .combo)
      ∧ (¬ csBad → ¬ fmtBad → ¬ comboBad → roiBad → validate c = some .roi)
      ∧ (¬ csBad → ¬ fmtBad → ¬ comboBad → ¬ roiBad → validate c = none) := by
  rw [hcs, hfmt, Bool.not_eq_false]
  have hformat (h : ¬ c.FmtError) : ∃ f, Fmt.ofTag (slice c.reqOp 0 6) = some f :=
    Option.ne_none_iff_exists'.1 fun htag => h (.inr (.inl htag))
  refine ⟨validate_of_csIllegal, validate_of_fmtError, fun hlegal h hc => ?_, fun hlegal h hc hr => ?_,
    fun hlegal h hc hr => ?_⟩
  · obtain ⟨f, hf⟩ := hformat h
    rw [validate_of_not_fmtError hlegal h hf, if_pos ((hcombo f hf).1 hc)]
  · obtain ⟨f, hf⟩ := hformat h
    rw [validate_of_not_fmtError hlegal h hf, if_neg (mt (hcombo f hf).2 hc), if_pos ((hroi f hf).1 hr)]
  · obtain ⟨f, hf⟩ := hformat h
    rw [validate_of_not_fmtError hlegal h hf, if_neg (mt (hcombo f hf).2 hc), if_neg (mt (hroi f hf).2 hr)]

/-- Settles O12: the chain, with each error's causes as numbers and bits of the registers. -/
theorem validateReportsFirstError : Obligations.ValidateReportsFirstError := by
  intro c
  dsimp only
  have hreserved : c.reqOp.extractLsb' 21 11 ≠ 0 ↔ slice c.reqOp 21 11 ≠ 0 := by
    rw [slice_eq_toNat_extractLsb', Ne, Ne, BitVec.toNat_eq]; rfl
  have hpfam : (reqFields c.reqOp).pfam.code = slice c.reqOp 14 2 := code_ofCode (Nat.mod_lt _ (by decide))
  have hunpack : reqDir c.reqOp = .unpack ↔ bitAt c.reqOp 7 = true := by cases h : bitAt c.reqOp 7 <;> simp [reqDir, h]
  have hpack : reqDir c.reqOp = .pack ↔ ¬ bitAt c.reqOp 7 = true := by cases h : bitAt c.reqOp 7 <;> simp [reqDir, h]
  simp only [hreserved, ← slice_eq_toNat_extractLsb', ← bitAt_eq_getLsbD]
  refine validate_chain ?cs ?fmt (fun f hf => ?combo) (fun f hf => ?roi)
  case cs => rw [← csLegal_reqFields, Bool.not_eq_true]
  case fmt =>
    rw [ReqRegs.FmtError, ofTag_eq_none_iff, depthLegal_reqFields, signLegal_reqFields, decodeMode_eq_none_iff, tagsBad_iff,
      hpfam]
    simp [reqReservedZero, imp_iff_not_or, or_assoc]
  case combo => rw [← tag_of_ofTag hf, hunpack, (yuv420_iff_tag f).1]
  case roi =>
    rw [← tag_of_ofTag hf, ← (yuv420_iff_tag f).2, periodOfTag_tag, ← hpfam, ← widthMultiple_eq, ← hpack]
    simp only [geometryBad, Bool.or_eq_true, Bool.and_eq_true, decide_eq_true_eq, and_or_left, or_assoc, and_assoc]
    rfl

end Sys2Proof.Machine
end

section
/-!
PROOFS. START of a valid request: the latched registers prepare to a request, so the engine becomes busy on them
(10_state.md R23; 46_row_driver.md R190); O6.
-/

namespace Sys2Proof.Machine

/-! ### Valid registers prepare -/

/-- Registers that pass validation have a legal colour standard and none of the causes of `ERR_FMT` (R191). -/
theorem legal_of_validate {c : ReqRegs} (h : validate c = none) :
    (reqFields c.reqOp).csLegal = true ∧ ¬ c.FmtError := by
  have hcs : (reqFields c.reqOp).csLegal = true := by
    by_contra hcs
    rw [Bool.not_eq_true] at hcs
    exact absurd (h.symm.trans (validate_of_csIllegal hcs)) nofun
  exact ⟨hcs, fun he => absurd (h.symm.trans (validate_of_fmtError hcs he)) nofun⟩

/-- Each legal colour standard and depth decodes (R64, R67). -/
theorem decode_of_legal {q : ReqFields} (hcs : q.csLegal = true) (hdepth : q.depthLegal = true) :
    (∃ cs, decodeCs q.cs = some cs) ∧ ∃ s, decodeDepth q.pdepth = some s := by
  have hcodes : ∀ b : BitVec 3, (b = 1 ∨ b = 2 ∨ b = 5 ∨ b = 6 → decodeCs b ≠ none) ∧ (b.toNat < 5 → decodeDepth b ≠ none) := by
    decide
  exact ⟨Option.ne_none_iff_exists'.1 ((hcodes q.cs).1 (by simpa [ReqFields.csLegal, or_assoc] using hcs)),
    Option.ne_none_iff_exists'.1 ((hcodes q.pdepth).2 (by simpa [ReqFields.depthLegal] using hdepth))⟩

/-- Registers that pass validation prepare to a request: every operand decodes (R75, R191). -/
theorem prepareLatched_of_validate (t : Cmt) {c : ReqRegs} (h : validate c = none) : ∃ j, prepareLatched t c = .ok j := by
  obtain ⟨hlegal, hfmt⟩ := legal_of_validate h
  simp only [ReqRegs.FmtError, not_or, Bool.not_eq_false] at hfmt
  obtain ⟨hres, htag, hdepth, -, hmode, -⟩ := hfmt
  obtain ⟨f, hf⟩ := Option.ne_none_iff_exists'.1 htag
  obtain ⟨⟨cs, hcs⟩, s, hs⟩ := decode_of_legal hlegal hdepth
  obtain ⟨m, hm⟩ := Option.ne_none_iff_exists'.1 hmode
  have hview : reqView c.reqOp = some (reqDir c.reqOp, f, reqFields c.reqOp) := by simp [reqView, hres, hf]
  exact ⟨⟨reqDir c.reqOp, f, reqFields c.reqOp, c, s, m, t.entry cs⟩,
    prepareLatched_of_reqView hview (by simp [prepare, reqWord_of_reqView hview, h, hcs, hs, hm])⟩

/-! ### The obligation -/

/-- Settles O6: the registers prepare and no device refuses, so of the outcomes of a START only the launch is left. -/
theorem startBeginsValidRequest : Obligations.StartBeginsValidRequest := by
  intro s clr ie hidle hv hclear
  obtain ⟨j, hj⟩ := prepareLatched_of_validate s.cmt hv
  have hdevices : s.platform.devices.any (footprintTouches j) = false :=
    List.any_eq_false.2 fun r hr => Bool.not_eq_true _ ▸ hclear j hj r hr
  rw [exec_start_of_idle hidle]
  cases clr <;> simp [acceptStart, clrPart, iePart, clearStatus, hj, hdevices]

end Sys2Proof.Machine
end

section
/-!
PROOFS. `Convert` without the correction: which of its steps apply between two structures, and what each output sample is
made of (41_color_matrix_transform.md R95; 42_chroma_resampler.md R100 to R104; 46_row_driver.md R203); O44.
-/

namespace Sys2Proof.Machine

/-! ### The steps at a column -/

/-- The three samples of pixel `x` of a row. -/
def Rows.pixel (b : Rows) (x : Nat) : Int × Int × Int := (nth b.c0 x, nth b.c1 x, nth b.c2 x)

/-- The up-sampler that the request selects (R104). -/
def Job.chromaUp (j : Job) (c : List Int) : List Int := if j.q.ups then crsUp c (j.w / 2) else crsRep c (j.w / 2)

/-- The chroma of column `x` after the up-sampler: at an odd column but the last the truncated average with the next sample
where `UPS` is set, else the pair's own sample (R100, R101). -/
def Job.upsampled (j : Job) (c : Nat → Int) (x : Nat) : Int :=
  if j.q.ups = true ∧ x % 2 = 1 ∧ x / 2 + 1 < j.w / 2 then (c (x / 2) + c (x / 2 + 1)) / 2 else c (x / 2)

theorem nth_chromaUp {j : Job} (c : List Int) {x : Nat} (hx : x < 2 * (j.w / 2)) :
    nth (j.chromaUp c) x = j.upsampled (nth c) x := by
  cases hups : j.q.ups with
  | false => simp [Job.chromaUp, Job.upsampled, hups, nth_crsRep c hx]
  | true =>
    simp only [Job.chromaUp, Job.upsampled, hups, crsUp, nth_tabulate _ hx, asr_one, if_true, true_and]
    rcases Nat.mod_two_eq_zero_or_one x with h | h <;> simp [h]

theorem pixel_chromaUp {j : Job} (hw : j.w % 2 = 0) (a : Rows) {x : Nat} (hx : x < j.w) :
    (onChroma j.chromaUp a).pixel x = (nth a.c0 x, j.upsampled (nth a.c1) x, j.upsampled (nth a.c2) x) := by
  have hcol : x < 2 * (j.w / 2) := by omega
  simp only [Rows.pixel, onChroma, nth_chromaUp _ hcol]

theorem pixel_matrixRow (f : Int → Int → Int → Int × Int × Int) (a : Rows) {w x : Nat} (hx : x < w) :
    (matrixRow f w a).pixel x = f (a.pixel x).1 (a.pixel x).2.1 (a.pixel x).2.2 := by
  simp only [Rows.pixel, matrixRow, nth_tabulate _ hx]

/-- The chroma of a pair of pixels after the down-sampler (R102). -/
theorem chroma_crsDown (a : Rows) {n i : Nat} (hi : i < n) :
    nth (onChroma (fun c => crsDown c n) a).c1 i = ((a.pixel (2 * i)).2.1 + (a.pixel (2 * i + 1)).2.1 + 1) / 2
      ∧ nth (onChroma (fun c => crsDown c n) a).c2 i = ((a.pixel (2 * i)).2.2 + (a.pixel (2 * i + 1)).2.2 + 1) / 2 :=
  ⟨nth_crsDown a.c1 hi, nth_crsDown a.c2 hi⟩

/-! ### The steps that apply -/

theorem mem_rgb_iff (k : Structure) : k ∈ [.rgb, .rgba] ↔ k.isYuv = false := by cases k <;> decide

theorem mem_halfChroma_iff (k : Structure) : k ∈ [.yuv422, .yuv420] ↔ k.halfChroma = true := by cases k <;> decide

theorem isYuv_of_halfChroma {k : Structure} (h : k.halfChroma = true) : k.isYuv = true := by
  revert h
  cases k <;> decide

theorem ne_yuv422_of_not_isYuv {k : Structure} (h : k.isYuv = false) : k ≠ .yuv422 := by
  rintro rfl
  cases h

section
variable {j : Job} (a : Rows)

/-- Without the correction `Convert` is its other three steps (R203). -/
theorem convert_of_plain (hplain : j.q.c709 = false) (k : C709Record) :
    convert k j a = convertDown j (convertMatrix j (convertUp j a)) := by
  simp [convert, convertCorrect, hplain]

/-- The chroma goes up from 4:2:2 to an output with full chroma (R104). -/
theorem convertUp_of_full (hin : j.inner = .yuv422) (hout : j.outer.halfChroma = false) :
    convertUp j a = onChroma j.chromaUp a := by
  refine if_pos ?_
  rw [hin]
  revert hout
  cases j.outer <;> decide

theorem convertUp_skip (h : j.inner ≠ .yuv422 ∨ j.outer.halfChroma = true) : convertUp j a = a := by
  refine if_neg ?_
  revert h
  cases j.inner <;> cases j.outer <;> decide

theorem convertMatrix_y2r (hin : j.inner.isYuv = true) (hout : j.outer.isYuv = false) :
    convertMatrix j a = matrixRow (y2r j.dw j.e.y2r) j.w a := by
  simp [convertMatrix, hin, hout]

theorem convertMatrix_r2y (hin : j.inner.isYuv = false) (hout : j.outer.isYuv = true) :
    convertMatrix j a = matrixRow (r2y j.dw j.e.r2y) j.w a := by
  simp [convertMatrix, hin, hout]

theorem convertMatrix_skip (h : j.inner.isYuv = j.outer.isYuv) : convertMatrix j a = a := by
  simp [convertMatrix, h]

/-- The chroma goes down from full chroma to an output with halved chroma (R104). -/
theorem convertDown_of_half (hin : j.inner.halfChroma = false) (hout : j.outer.halfChroma = true) :
    convertDown j a = onChroma (fun c => crsDown c (j.w / 2)) a := by
  refine if_pos ?_
  rw [hout]
  revert hin
  cases j.inner <;> decide

theorem convertDown_skip (h : j.inner.halfChroma = true ∨ j.outer.halfChroma = false) : convertDown j a = a := by
  refine if_neg ?_
  revert h
  cases j.inner <;> cases j.outer <;> decide

end

/-! ### The pairs of structures -/

section
variable {j : Job} (hplain : j.q.c709 = false) (k : C709Record) (a : Rows)
include hplain

theorem convert_yuv422_rgb (hin : j.inner = .yuv422) (hout : j.outer.isYuv = false) :
    convert k j a = matrixRow (y2r j.dw j.e.y2r) j.w (onChroma j.chromaUp a) := by
  have hfull := fullChroma_of_not_isYuv hout
  rw [convert_of_plain a hplain, convertUp_of_full a hin hfull, convertMatrix_y2r _ (hin ▸ rfl) hout,
    convertDown_skip _ (.inr hfull)]

theorem convert_yuv422_yuv444 (hin : j.inner = .yuv422) (hout : j.outer = .yuv444) :
    convert k j a = onChroma j.chromaUp a := by
  have hfull : j.outer.halfChroma = false := hout ▸ rfl
  rw [convert_of_plain a hplain, convertUp_of_full a hin hfull, convertMatrix_skip _ (hin ▸ hout ▸ rfl),
    convertDown_skip _ (.inr hfull)]

theorem convert_yuv444_rgb (hin : j.inner = .yuv444) (hout : j.outer.isYuv = false) :
    convert k j a = matrixRow (y2r j.dw j.e.y2r) j.w a := by
  rw [convert_of_plain a hplain, convertUp_skip a (.inl (hin ▸ nofun)), convertMatrix_y2r _ (hin ▸ rfl) hout,
    convertDown_skip _ (.inr (fullChroma_of_not_isYuv hout))]

theorem convert_rgb_yuv444 (hin : j.inner.isYuv = false) (hout : j.outer = .yuv444) :
    convert k j a = matrixRow (r2y j.dw j.e.r2y) j.w a := by
  rw [convert_of_plain a hplain, convertUp_skip a (.inl (ne_yuv422_of_not_isYuv hin)), convertMatrix_r2y _ hin (hout ▸ rfl),
    convertDown_skip _ (.inr (hout ▸ rfl))]

theorem convert_rgb_halfChroma (hin : j.inner.isYuv = false) (hout : j.outer.halfChroma = true) :
    convert k j a = onChroma (fun c => crsDown c (j.w / 2)) (matrixRow (r2y j.dw j.e.r2y) j.w a) := by
  rw [convert_of_plain a hplain, convertUp_skip a (.inr hout), convertMatrix_r2y _ hin (isYuv_of_halfChroma hout),
    convertDown_of_half _ (fullChroma_of_not_isYuv hin) hout]

theorem convert_yuv444_halfChroma (hin : j.inner = .yuv444) (hout : j.outer.halfChroma = true) :
    convert k j a = onChroma (fun c => crsDown c (j.w / 2)) a := by
  rw [convert_of_plain a hplain, convertUp_skip a (.inr hout),
    convertMatrix_skip _ (by rw [isYuv_of_halfChroma hout, hin]; rfl), convertDown_of_half _ (hin ▸ rfl) hout]

/-- No step applies where both sides have chroma alike (R104). -/
theorem convert_alike (hyuv : j.inner.isYuv = j.outer.isYuv) (hhalf : j.inner.halfChroma = j.outer.halfChroma) :
    convert k j a = a := by
  have hup : j.inner ≠ .yuv422 ∨ j.outer.halfChroma = true := by
    rw [← hhalf]
    cases j.inner <;> decide
  have hdown : j.inner.halfChroma = true ∨ j.outer.halfChroma = false := by
    rw [← hhalf]
    cases j.inner <;> decide
  rw [convert_of_plain a hplain, convertUp_skip a hup, convertMatrix_skip _ hyuv, convertDown_skip _ hdown]

end

/-! ### The obligation -/

/-- Settles O44: for each pair of structures the steps that apply, read at a column. -/
theorem convertFollowsStructures : Obligations.ConvertFollowsStructures := by
  intro k j a b y u v up rgb hplain
  have hrgb (x : Nat) : rgb x = (convert k j a).pixel x := rfl
  simp only [mem_rgb_iff, mem_halfChroma_iff, hrgb]
  refine ⟨fun hin hw hout x hx => ?_, fun hin hw hout x hx => ?_, fun hin hout x hx => ?_, fun hin hout x hx => ?_,
    fun hin hout => ⟨fun x hx => ?_, fun i hi => ?_⟩, fun hin hout => ?_, fun halike => ?_⟩
  · rw [convert_yuv422_rgb hplain k a hin hout, pixel_matrixRow _ _ hx, pixel_chromaUp hw a hx]; rfl
  · rw [convert_yuv422_yuv444 hplain k a hin hout, pixel_chromaUp hw a hx]; rfl
  · rw [convert_yuv444_rgb hplain k a hin hout, pixel_matrixRow _ _ hx]; rfl
  · rw [convert_rgb_yuv444 hplain k a hin hout, pixel_matrixRow _ _ hx]; rfl
  · have hluma := congrArg Prod.fst (pixel_matrixRow (r2y j.dw j.e.r2y) a hx)
    have hb : b = onChroma _ _ := convert_rgb_halfChroma hplain k a hin hout
    rw [hb]
    exact hluma
  · have hdown := chroma_crsDown (matrixRow (r2y j.dw j.e.r2y) j.w a) hi
    rw [pixel_matrixRow _ _ (show 2 * i < j.w by omega), pixel_matrixRow _ _ (show 2 * i + 1 < j.w by omega),
      ← convert_rgb_halfChroma hplain k a hin hout] at hdown
    exact hdown
  · have hb : b = onChroma (fun c => crsDown c (j.w / 2)) a := convert_yuv444_halfChroma hplain k a hin hout
    rw [hb]
    exact ⟨rfl, fun i hi => chroma_crsDown a hi⟩
  · rcases halike with ⟨hin, hout⟩ | ⟨hin, hout⟩ | ⟨hin, hout⟩
    · exact convert_alike hplain k a (by rw [isYuv_of_halfChroma hout, hin]; rfl) (by rw [hout, hin]; rfl)
    · exact convert_alike hplain k a (by rw [hout, hin]) (by rw [hout, hin])
    · exact convert_alike hplain k a (by rw [hout, hin])
        (by rw [fullChroma_of_not_isYuv hin, fullChroma_of_not_isYuv hout])

end Sys2Proof.Machine
end

section
/-!
PROOFS. A START that fails validation, and `CLR` (10_state.md R12; 60_exceptions.md R217, R218); O7 and O10.
-/

namespace Sys2Proof.Machine

/-- Settles O7, from what START of an idle engine does on registers that fail validation. -/
theorem startRecordsConfigurationError : Obligations.StartRecordsConfigurationError :=
  fun _ clr ie _ hidle hv => exec_start_of_invalid hidle hv clr ie

/-- `CLR` without `SRST`: ignored while busy, else the status is cleared and `IE` stored (R202, R218). -/
theorem exec_clr (s : State) (ie : Bool) :
    exec (.clr false ie) s = .next (if s.busy then s else iePart ie (clearStatus s)) :=
  (apply_ite Host.Outcome.next _ _ _).symm

/-- Settles O10: the two cases of `BUSY` in what `CLR` does. -/
theorem clrClearsStatus : Obligations.ClrClearsStatus := by
  intro s ie
  rw [exec_clr]
  exact ⟨fun hidle => by rw [if_neg (by simp [hidle])]; rfl, fun hbusy => by rw [if_pos hbusy]⟩

end Sys2Proof.Machine
end

section
/-!
PROOFS. Where the accesses of a row fail: the reads of a row name the bytes of its read footprint, one by one, so one that
is not answered leaves the row without a result; and what a partly written row leaves in memory (20_memory.md R41, R50;
60_exceptions.md R215, U6); O22 and O23.
-/

namespace Sys2Proof.Machine

/-! ### Answered accesses -/

/-- An answered access answers each of its bytes (R41, R50). -/
theorem accessOk_byte {p : Platform} {a b : Int} {n : Nat} (h : accessOk p a n = true) (hlo : a ≤ b) (hhi : b < a + n) :
    accessOk p b 1 = true := by
  obtain ⟨h0, hspace, hclear⟩ := (accessOk_iff p a n).1 h
  refine (accessOk_iff p b 1).2 ⟨by omega, by omega, fun reg hreg => ?_⟩
  have hmeet := hclear reg hreg
  simp only [Span.meets, Bool.and_eq_false_iff, decide_eq_false_iff_not] at hmeet ⊢
  omega

/-- Spans that answered accesses fill are answered at every byte. -/
theorem spansOk_of_writesOk {p : Platform} {ws : List Wr} {ss : List Span} (hok : writesOk p ws = true)
    (hfill : ∀ a, Covers ss a → WritesTo ws a) : SpansOk p ss := by
  intro sp hsp i hi
  obtain ⟨w, hw, hlo, hhi⟩ := hfill (sp.start + i) ⟨sp, hsp, by omega, by omega⟩
  exact accessOk_byte (List.all_eq_true.1 hok w hw) hlo hhi

theorem isSome_memRead (p : Platform) (m : Memory) (a : Int) (n : Nat) : (memRead p m a n).isSome = accessOk p a n := by
  unfold memRead
  split <;> simp_all

/-! ### Reads that a row's result needs -/

theorem isSome_allSome {α : Type} (l : List (Option α)) : (allSome l).isSome = true ↔ ∀ x ∈ l, x.isSome = true := by
  induction l with
  | nil => simp [allSome]
  | cons x l ih => cases x <;> simp [allSome, ih]

theorem isSome_allSome_tabulate {α : Type} (n : Nat) (f : Nat → Option α) :
    (allSome (tabulate n f)).isSome = true ↔ ∀ k < n, (f k).isSome = true := by
  simp [isSome_allSome, tabulate]

theorem isSome_allSome_flatMap {α : Type} (n : Nat) (g : Nat → List (Option α)) :
    (allSome ((List.range n).flatMap g)).isSome = true ↔ ∀ k < n, ∀ x ∈ g k, x.isSome = true := by
  simp only [isSome_allSome, List.forall_mem_flatMap, List.mem_range]

theorem isSome_arrays3 (x y z : Option (List Nat)) :
    (arrays3 x y z).isSome = true ↔ x.isSome = true ∧ y.isSome = true ∧ z.isSome = true := by
  cases x <;> cases y <;> cases z <;> simp [arrays3]

theorem isSome_arrays4 (x y z a : Option (List Nat)) :
    (arrays4 x y z a).isSome = true ↔ x.isSome = true ∧ y.isSome = true ∧ z.isSome = true ∧ a.isSome = true := by
  cases x <;> cases y <;> cases z <;> cases a <;> simp [arrays4]

theorem isSome_of_allSome_tabulate {α : Type} {n : Nat} {f : Nat → Option α} {l : List α}
    (h : allSome (tabulate n f) = some l) : ∀ k < n, (f k).isSome = true :=
  (isSome_allSome_tabulate n f).1 (Option.isSome_of_eq_some h)

/-- Every write of the list names an access that the way to read answers. -/
def AnswersAll (rd : Int → Nat → Option Nat) (ws : List Wr) : Prop := ∀ w ∈ ws, (rd w.addr w.n).isSome = true

theorem writesOk_of_answersAll {p : Platform} {m : Memory} {ws : List Wr} (h : AnswersAll (memRead p m) ws) :
    writesOk p ws = true :=
  List.all_eq_true.2 fun w hw => isSome_memRead p m w.addr w.n ▸ h w hw

theorem answersAll_of_extractV210 {rd : Int → Nat → Option Nat} {j : Job} {r : Nat} {x : Arrays} (hfw : j.fw = j.w)
    (h : extractV210 rd j r = some x) (o : Arrays) : AnswersAll rd (placeV210 j r o) := by
  simp only [AnswersAll, placeV210, hfw, forall_mem_blocks, List.forall_mem_cons, List.not_mem_nil, false_implies,
    implies_true, and_true]
  simp only [extractV210] at h
  split at h
  next h0 h1 h2 h3 =>
    exact fun g hg => ⟨isSome_of_allSome_tabulate h0 g hg, isSome_of_allSome_tabulate h1 g hg,
      isSome_of_allSome_tabulate h2 g hg, isSome_of_allSome_tabulate h3 g hg⟩
  next => cases h

theorem answersAll_of_extractAvid28 {rd : Int → Nat → Option Nat} {j : Job} {r : Nat} {x : Arrays} (hfw : j.fw = j.w)
    (h : extractAvid28 rd j r = some x) (o : Arrays) : AnswersAll rd (placeAvid28 j r o) := by
  simp only [AnswersAll, placeAvid28, hfw, forall_mem_blocks, List.forall_mem_cons, List.not_mem_nil, false_implies,
    implies_true, and_true]
  simp only [extractAvid28] at h
  split at h
  next hlo h0 h1 h2 h3 =>
    exact fun k hk => ⟨isSome_of_allSome_tabulate hlo k hk, isSome_of_allSome_tabulate h0 k hk,
      isSome_of_allSome_tabulate h1 k hk, isSome_of_allSome_tabulate h2 k hk, isSome_of_allSome_tabulate h3 k hk⟩
  next => cases h

/-- The reads of an extraction rule are the accesses of the placement rule of its layout, on a row as wide as the frame:
where the rule gives a result they have all been answered (R130, R134 to R185). -/
theorem answersAll_of_extractOf {f : Fmt} {rd : Int → Nat → Option Nat} {j : Job} {r : Nat} {x : Arrays} (hfw : j.fw = j.w)
    (h : extractOf f rd j r = some x) (o : Arrays) : AnswersAll rd (placeOf f j r o) := by
  cases f with
  | nv12 | yv12 => cases h
  | v210 => exact answersAll_of_extractV210 hfw h o
  | avid28 => exact answersAll_of_extractAvid28 hfw h o
  | _ =>
    replace h := Option.isSome_of_eq_some h
    simp only [extractOf, extractRgb24, extractRgb32, extractRgba32, extractRgb48, extractRgba64, extractBgra64,
      extractRg30, extractAr10, extractAb10, extractR210, extractDpx0, extractRgb8p, extractRgba8p, extractYuyv,
      extractUyvy, extractYu64, extractAvid214, extractAvid106, isSome_arrays3, isSome_arrays4, Option.isSome_map,
      isSome_allSome_tabulate, isSome_allSome_flatMap, List.forall_mem_cons, List.not_mem_nil, false_implies,
      implies_true, and_true, mem_tabulate, forall_exists_index, and_imp, forall_apply_eq_imp_iff₂] at h
    simp only [AnswersAll, placeOf, placeRgb24, placeRgb32, placeRgba32, placeRgb48, placeRgba64, placeBgra64, placeRg30,
      placeAr10, placeAb10, placeR210, placeDpx0, placeRgb8p, placeRgba8p, placeYuyv, placeUyvy, placeYu64,
      placeAvid214, placeAvid106, forall_mem_blocks, forall_mem_tiles, List.forall_mem_cons, List.not_mem_nil,
      false_implies, implies_true, and_true, hfw]
    grind

/-- A planar row that loads has all its samples answered, at the accesses of its stores (R44, R45). -/
theorem answersAll_of_loadRow {s : State} {j : Job} {r : Nat} {ch : Chan} {l : List Int} (h : loadRow s j r ch = some l)
    (vs : List Nat) : AnswersAll (memRead s.platform s.mem) (storeRow j r ch vs) := by
  simp only [AnswersAll, storeRow, forall_mem_tiles, storePlanar]
  intro x hx
  simpa only [loadPlanar, Option.isSome_map] using isSome_of_allSome_tabulate h x hx

/-- The planar rows of the family that load have all their samples answered (R194 step 1). -/
theorem answersAll_of_loadRows {s : State} {j : Job} {r : Nat} {x : Rows × List Int} (h : loadRows s j r = some x)
    (o : Arrays) : AnswersAll (memRead s.platform s.mem) (storeRows j r o) := by
  simp only [loadRows] at h
  split at h
  next c0 c1 c2 a h0 h1 h2 ha =>
    simp only [AnswersAll, storeRows, List.forall_mem_append]
    refine ⟨⟨⟨answersAll_of_loadRow h0 _, answersAll_of_loadRow h1 _⟩, answersAll_of_loadRow h2 _⟩, ?_⟩
    by_cases hrgba : j.fam = .rgba
    · rw [if_pos hrgba] at ha ⊢
      exact answersAll_of_loadRow ha _
    · rw [if_neg hrgba]
      exact List.forall_mem_nil _
  next => cases h

/-! ### A row with a result has its whole read footprint answered -/

/-- The request with a frame as wide as its rectangle: its external rows are those an UNPACK row reads (R131). -/
def Job.frameOfRoi (j : Job) : Job := { j with c := { j.c with frame := j.c.roi } }

theorem fw_frameOfRoi (j : Job) : j.frameOfRoi.fw = j.w := rfl

theorem extSpans_frameOfRoi (j : Job) (n r : Nat) : extSpans j.frameOfRoi n r = extSpans j n r := rfl

theorem extractOf_frameOfRoi (f : Fmt) (rd : Int → Nat → Option Nat) (j : Job) (r : Nat) :
    extractOf f rd j.frameOfRoi r = extractOf f rd j r := by
  cases f <;> rfl

/-- An external row that extraction takes is answered at every byte (R50, R199). -/
theorem spansOk_of_extractOf {s : State} {j : Job} {r : Nat} {x : Arrays} (hal : j.Aligned)
    (h : extractOf j.fmt (memRead s.platform s.mem) j r = some x) : SpansOk s.platform (extSpans j j.w r) := by
  rw [← extractOf_frameOfRoi] at h
  exact spansOk_of_writesOk (writesOk_of_answersAll (answersAll_of_extractOf (fw_frameOfRoi j) h x))
    fun a => (writesTo_placeOf j.frameOfRoi r x a hal.width).2

/-- Planar rows that load are answered at every byte (R50, R199). -/
theorem spansOk_of_loadRows {s : State} {j : Job} {r : Nat} {x : Rows × List Int} (h : loadRows s j r = some x) :
    SpansOk s.platform (planeSpans j r) :=
  spansOk_of_writesOk (writesOk_of_answersAll (answersAll_of_loadRows h ⟨[], [], [], []⟩))
    fun a => (writesTo_storeRows j r _ a).2

/-- A row that has a result has had every byte of its read footprint answered (R50, R215). -/
theorem spansOk_of_rowOf {d : Dir} {f : Fmt} {j : Job} (hd : j.dir = d) (hf : j.fmt = f) (hal : j.Aligned) {s : State}
    {r : Nat} {ws : List Wr} {ds : Draws} (h : rowOf d f s j r = some (ws, ds)) : SpansOk s.platform (rowReads j r) := by
  subst hd hf
  cases hdir : j.dir with
  | pack =>
    simp only [hdir, rowOf, packRow, Option.map_eq_some_iff] at h
    obtain ⟨x, hload, -⟩ := h
    simpa only [rowReads, hdir] using spansOk_of_loadRows hload
  | unpack =>
    simp only [hdir, rowOf, unpackRow, Option.map_eq_some_iff] at h
    obtain ⟨x, hextract, -⟩ := h
    simpa only [rowReads, hdir] using spansOk_of_extractOf hal hextract

/-! ### The step of a failing row -/

/-- While rows are left, the step of a prepared request is the row's (R193). -/
theorem exec_row {d : Dir} {f : Fmt} {q : ReqFields} {s : State} {j : Job} (hb : s.busy = true)
    (hj : prepare s.cmt d f q s.cur = .ok j) (hr : s.row.toNat < j.h) :
    exec (reqInstr q d f) s = .next (rowStep (rowOf d f) j s) := by
  rw [exec_served (prepare_served_aligned hj).1]
  simp [requestStep, hb, hj, hr]

/-- Settles O22: the row has no result, so its step is the read error, which disjoint footprints let stand. -/
theorem readBusErrorEndsRequest : Obligations.ReadBusErrorEndsRequest := by
  intro d f q s j hb hj hr hreads ho ht
  obtain ⟨-, hd, hf, -⟩ := prepare_eq_ok hj
  rw [exec_row hb hj hr]
  rcases rowStep_cases (rowOf d f) j s with ⟨-, hfail⟩ | ⟨ws, ds, hrow, -⟩
  · rw [hfail, settle_of_disjoint (s := takeReadError s) ho ht]
    rfl
  · exact absurd (spansOk_of_rowOf hd hf (prepare_served_aligned hj).2 hrow) hreads

/-! ### A partly written row -/

/-- Whatever bytes a failing row has written, a byte reads as before or as one of the row's writes makes it (U6). -/
theorem loadByte_storeSome_cases (p : Platform) (l : List (Int × Byte)) {m : Memory} (hm : m.wf = true) (k a : Nat) :
    loadByte (storeSome p l m k).1 a = loadByte m a ∨ ((a : Int), loadByte (storeSome p l m k).1 a) ∈ l := by
  induction l generalizing m k with
  | nil => exact .inl rfl
  | cons x l ih =>
    obtain ⟨b, v⟩ := x
    simp only [storeSome]
    split
    next hstore =>
      rcases ih (wf_storeByte hm b.toNat v) (k + 1) with h | h
      · by_cases hb : a = b.toNat
        · subst hb
          rw [Bool.and_eq_true] at hstore
          rw [h, loadByte_storeByte_self hm, Int.toNat_of_nonneg (accessOk_bounds hstore.1).1]
          exact .inr List.mem_cons_self
        · exact .inl (h.trans (loadByte_storeByte_of_ne m v hb))
      · exact .inr (List.mem_cons_of_mem _ h)
    next => exact (ih hm (k + 1)).imp_right (List.mem_cons_of_mem _)

/-- Settles O23: the row has a result, whose writes fill the write footprint, so one of them is not answered and the row's
step is the write error. -/
theorem writeBusErrorEndsRequest : Obligations.WriteBusErrorEndsRequest := by
  intro d f q s j hwf hb hj hr hreads hwrites ho ht
  obtain ⟨-, hd, hf, -⟩ := prepare_eq_ok hj
  obtain ⟨hserved, hal⟩ := prepare_served_aligned hj
  obtain ⟨ws, ds, hresult⟩ := rowOf_of_spansOk hd hf hserved hal hreads
  have hrow : rowOf d f s j s.row.toNat = some (ws, ds) := hresult s.mem fun _ _ => rfl
  have hfail : ¬ writesOk s.platform ws = true := fun hok =>
    hwrites (spansOk_of_writesOk hok fun a => (writesTo_of_rowOf hd hf hal hrow a).2)
  have hstep : rowStep (rowOf d f) j s = takeWriteError ws { s with dstate := ds.dstate, freeCtr := ds.ctr } := by
    simp only [rowStep, hrow, if_neg hfail]
    exact settle_of_disjoint ho ht
  exact ⟨ws, ds, _, hrow, (exec_row hb hj hr).trans (congrArg _ hstep), rfl,
    fun a => loadByte_storeSome_cases _ _ hwf _ a⟩

end Sys2Proof.Machine
end

section
/-!
PROOFS. Soft reset: `SRST` alone, with `CLR` and with `START` (70_reset_and_hazards.md R231; 10_state.md R12, R34); O11.
-/

namespace Sys2Proof.Machine

/-- After a reset of the registers every one of them holds the value it has in the state after reset (R34). -/
theorem atReset_resetRegisters (s : State) : AtReset (resetRegisters s) := resetStateHoldsStatedValues.1

/-- The reset request registers name no colour standard (R64, R191). -/
theorem validate_zero : validate ReqRegs.zero = some .csd := validate_of_csIllegal (by decide)

/-- While busy a command is ignored, whatever the other parts of its word (R202). -/
theorem exec_srst_of_busy {s : State} (hb : s.busy = true) (clr ie : Bool) :
    exec (.srst ie) s = .next s ∧ exec (.clr true ie) s = .next s ∧ exec (.start true clr ie) s = .next s :=
  ⟨if_pos hb, if_pos hb, if_pos hb⟩

theorem exec_srst_of_idle {s : State} (hb : s.busy = false) (ie : Bool) :
    exec (.srst ie) s = .next (iePart ie (resetRegisters s)) := if_neg (by simp [hb])

/-- The other commands of a word with `SRST` act on the registers that it has reset (R12, R231). -/
theorem exec_withSrst_of_idle {s : State} (hb : s.busy = false) (clr ie : Bool) :
    exec (.clr true ie) s = exec (.clr false ie) (resetRegisters s)
      ∧ exec (.start true clr ie) s = exec (.start false clr ie) (resetRegisters s) := by
  have hidle : ¬ s.busy = true := by simp [hb]
  exact ⟨(if_neg hidle).trans (exec_clr (resetRegisters s) ie).symm,
    (if_neg hidle).trans (exec_start_of_idle (s := resetRegisters s) rfl clr ie).symm⟩

/-- Settles O11: the reset registers already have a clear status, so `CLR` adds nothing, and they fail validation. -/
theorem srstResetsRegisters : Obligations.SrstResetsRegisters := by
  refine fun s clr ie => ⟨fun hidle => ?_, fun hbusy => exec_srst_of_busy hbusy clr ie⟩
  obtain ⟨hclr, hstart⟩ := exec_withSrst_of_idle hidle clr ie
  exact ⟨iePart ie (resetRegisters s), exec_srst_of_idle hidle ie, hclr.trans (exec_clr _ ie),
    atReset_resetRegisters s, rfl, rfl, rfl, rfl, rfl, rfl,
    hstart.trans (exec_start_of_invalid (s := resetRegisters s) rfl validate_zero clr ie)⟩

end Sys2Proof.Machine
end

section
/-!
PROOFS. The reset input: its two turns, and the turns while it is asserted (70_reset_and_hazards.md R230); O18.
-/

namespace Sys2Proof.Machine

/-- The turn of the reset input runs no instruction: it is the assertion or the release (R230). -/
theorem step_reset {s : State} {level : Bool} {rest : List HostAct} (hhead : s.host = .reset level :: rest) :
    step s = .next (if level then assertReset { s with host := rest } else releaseReset { s with host := rest }) := by
  cases level <;> simp [step, fetch, otherTurn, hhead]

/-- While reset is asserted no turn runs an instruction (R230). -/
theorem fetch_of_rst {s : State} (hrst : s.rst = true) : fetch s = none := by
  have hrequest : fetchRequest s = none := by simp [fetchRequest, hrst]
  have hcommand (a v : Word) (width : AccessWidth) : fetchCommand s a width v = none := by simp [fetchCommand, hrst]
  unfold fetch
  split <;> simp [hrequest, hcommand]

theorem step_of_rst {s : State} (hrst : s.rst = true) : step s = otherTurn s := by simp [step, fetch_of_rst hrst]

theorem engineIdle_of_rst {s : State} (hrst : s.rst = true) : engineIdle s = s := by simp [engineIdle, hrst]

/-- While reset is asserted a register write is ignored (R230). -/
theorem step_regWrite_of_rst {s : State} {a v : Word} {r : Reg} {rest : List HostAct} (hrst : s.rst = true)
    (hhead : s.host = .regWrite a .word v :: rest) (hreg : regOf s.platform a .word = some r) :
    step s = .next { s with host := rest } := by
  simp [step_of_rst hrst, otherTurn, hostRegWrite, hhead, hreg, hrst]

/-- While reset is asserted the engine's turn does nothing (R230; log 11, log 16). -/
theorem step_engineTurn_of_rst {s : State} (hrst : s.rst = true) (rest : List HostAct) :
    (s.host = [] → step s = .next s)
      ∧ (s.host = .engine :: rest → step s = .next { s with host := rest })
      ∧ (s.host = .wait :: rest → s.done = false → step s = .next s) := by
  rw [step_of_rst hrst]
  refine ⟨fun hhead => ?_, fun hhead => ?_, fun hhead hdone => ?_⟩
  · simp [otherTurn, hhead, engineIdle_of_rst hrst]
  · simp [otherTurn, hhead, engineIdle_of_rst (s := { s with host := rest }) hrst]
  · simp [otherTurn, hhead, hdone, engineIdle_of_rst hrst]

/-- Settles O18, turn by turn: the assertion abandons the request, the release resets the registers, and in between neither
the host's writes nor the engine's turns act. -/
theorem resetInputAbandonsAndResets : Obligations.ResetInputAbandonsAndResets := by
  refine ⟨fun s rest hhead => ?assertion, fun s rest hrst hhead => ?release,
    fun s a v r rest hrst hhead hreg => step_regWrite_of_rst hrst hhead hreg,
    fun s rest hrst => step_engineTurn_of_rst hrst rest⟩
  case assertion =>
    exact ⟨_, step_reset hhead, rfl, rfl, rfl, rfl, rfl,
      fun a ha => loadByte_unspecify (runningWrites s) { s with host := rest } ha⟩
  case release =>
    have hrelease : releaseReset { s with host := rest } = { resetRegisters { s with host := rest } with rst := false } :=
      if_pos hrst
    exact ⟨_, (step_reset hhead).trans (congrArg _ hrelease), rfl, atReset_resetRegisters s, rfl, rfl, rfl, rfl⟩

end Sys2Proof.Machine
end

section
/-!
PROOFS. Progress: a running valid request takes one step for each row left and one for the completion, unless a bus error
ends it before (46_row_driver.md R193, R196; 70_reset_and_hazards.md R237); O27.
-/

namespace Sys2Proof.Machine

/-! ### A request that runs, and its end -/

/-- The valid request `j` runs: its status is clear, its rows are not passed, and neither the reset input nor a host action
takes the engine's turn (R24, R190, R237). -/
structure RequestRuns (j : Job) (s : State) : Prop where
  busy : s.busy = true
  done : s.done = false
  err : s.err = .none
  rst : s.rst = false
  host : s.host = []
  latched : prepareLatched s.cmt s.cur = .ok j
  row : s.row.toNat ≤ j.h

/-- The request `j` has ended, completed after all its rows or with a bus error at a row from `r` on (R196, R215). -/
structure RequestEnded (j : Job) (r : Nat) (s : State) : Prop where
  busy : s.busy = false
  done : s.done = true
  outcome : (s.err = .none ∧ s.row.toNat = j.h) ∨ (s.err = .bus ∧ r ≤ s.row.toNat ∧ s.row.toNat < j.h)

theorem RequestEnded.mono {j : Job} {r r' : Nat} {s : State} (h : RequestEnded j r s) (hle : r' ≤ r) :
    RequestEnded j r' s :=
  ⟨h.busy, h.done, h.outcome.imp_right fun ⟨herr, hrow, hlt⟩ => ⟨herr, hle.trans hrow, hlt⟩⟩

@[simp] theorem settle_err (j : Job) (s : State) : (settle j s).err = s.err := by
  rcases settle_cases j s with ⟨e, -⟩ | e <;> rw [e]; rfl
@[simp] theorem settle_row (j : Job) (s : State) : (settle j s).row = s.row := by
  rcases settle_cases j s with ⟨e, -⟩ | e <;> rw [e]; rfl

/-- The end of a request leaves its status as it was recorded (R196, R217). -/
theorem RequestEnded.settle {j : Job} {r : Nat} {s : State} (h : RequestEnded j r s) : RequestEnded j r (settle j s) :=
  ⟨by simpa using h.busy, by simpa using h.done, by simpa using h.outcome⟩

/-! ### One step -/

/-- Registers prepare to the request that the latched word names (R200). -/
theorem reqView_of_prepareLatched {t : Cmt} {c : ReqRegs} {j : Job} (h : prepareLatched t c = .ok j) :
    ∃ d f q, reqView c.reqOp = some (d, f, q) ∧ prepare t d f q c = .ok j := by
  simp only [prepareLatched, validate_of_prepareLatched h] at h
  split at h
  · exact ⟨_, _, _, by assumption, h⟩
  · cases h

/-- Past its last row the step of a prepared request is the completion (R193, R196). -/
theorem exec_completion {d : Dir} {f : Fmt} {q : ReqFields} {s : State} {j : Job} (hb : s.busy = true)
    (hj : prepare s.cmt d f q s.cur = .ok j) (hr : j.h ≤ s.row.toNat) :
    exec (reqInstr q d f) s = .next (settle j (complete s)) := by
  rw [exec_served (prepare_served_aligned hj).1]
  simp [requestStep, hb, hj, Nat.not_lt.2 hr]

/-- A row's step of a running request runs the next row, or ends with a bus error at this one (R193, R215). -/
theorem RequestRuns.runs_or_ends_of_row {j : Job} {s : State} (h : RequestRuns j s) (hr : s.row.toNat < j.h)
    (row : State → Job → Nat → RowResult) :
    (RequestRuns j (rowStep row j s) ∧ (rowStep row j s).row.toNat = s.row.toNat + 1)
      ∨ RequestEnded j s.row.toNat (rowStep row j s) := by
  rcases rowStep_cases row j s with ⟨-, e⟩ | ⟨ws, ds, -, ⟨-, e⟩ | ⟨-, e⟩⟩ <;> rw [e]
  · exact .inr (RequestEnded.settle ⟨rfl, rfl, .inr ⟨rfl, Nat.le_refl _, hr⟩⟩)
  · have hnext : (s.row + 1).toNat = s.row.toNat + 1 := by
      have hlt : j.h < 2 ^ 16 := roiH_lt j.c
      bv_omega
    exact .inl ⟨⟨h.busy, h.done, h.err, h.rst, h.host, h.latched, hnext.trans_le hr⟩, hnext⟩
  · exact .inr (RequestEnded.settle ⟨rfl, rfl, .inr ⟨rfl, Nat.le_refl _, hr⟩⟩)

/-- One step of a running request answers a next state: it runs one row further, or it has ended (R193, R237). -/
theorem RequestRuns.runs_or_ends_of_step {j : Job} {s : State} (h : RequestRuns j s) :
    ∃ t, step s = .next t ∧ ((RequestRuns j t ∧ t.row.toNat = s.row.toNat + 1) ∨ RequestEnded j s.row.toNat t) := by
  obtain ⟨d, f, q, hview, hj⟩ := reqView_of_prepareLatched h.latched
  have hdecode : decode .request s.cur.reqOp = some (reqInstr q d f) := by simp [decode, decodeRequest, hview]
  have hstep : step s = exec (reqInstr q d f) s :=
    (stepRunsDecodedInstruction.1 s _ [] h.busy h.rst hdecode).1 h.host
  rw [hstep]
  by_cases hr : s.row.toNat < j.h
  · exact ⟨_, exec_row h.busy hj hr, h.runs_or_ends_of_row hr _⟩
  · exact ⟨_, exec_completion h.busy hj (Nat.le_of_not_lt hr),
      .inr (RequestEnded.settle ⟨rfl, rfl, .inl ⟨h.err, Nat.le_antisymm h.row (Nat.le_of_not_lt hr)⟩⟩)⟩

/-! ### The steps to the end -/

/-- A run's first step. -/
theorem run_succ_of_step {s t : State} (h : step s = .next t) (k : Nat) :
    Host.Core.run Sys2Proof.core (k + 1) s = Host.Core.run Sys2Proof.core k t := by
  have hcore : Sys2Proof.core.step s = .next t := h
  simp only [Host.Core.run, hcore]

/-- A request with `n` rows left ends within those and the completion, by induction on `n` (R237). -/
theorem RequestRuns.ends {j : Job} {n : Nat} {s : State} (h : RequestRuns j s) (hn : j.h - s.row.toNat = n) :
    ∃ k t, k ≤ n + 1 ∧ Host.Core.run Sys2Proof.core k s = .next t ∧ RequestEnded j s.row.toNat t := by
  induction n generalizing s with
  | zero =>
    obtain ⟨t, hstep, ⟨hruns, hrow⟩ | hended⟩ := h.runs_or_ends_of_step
    · have hle := hruns.row
      omega
    · exact ⟨1, t, Nat.le_refl _, run_succ_of_step hstep 0, hended⟩
  | succ n ih =>
    obtain ⟨t, hstep, ⟨hruns, hrow⟩ | hended⟩ := h.runs_or_ends_of_step
    · obtain ⟨k, u, hk, hrun, hended⟩ := ih hruns (by omega)
      exact ⟨k + 1, u, Nat.succ_le_succ hk, (run_succ_of_step hstep k).trans hrun, hended.mono (by omega)⟩
    · exact ⟨1, t, Nat.le_add_left _ _, run_succ_of_step hstep 0, hended⟩

/-- Settles O27: the induction on the rows left gives the end, and one step the increase of `ROW`. -/
theorem validRequestAlwaysEnds : Obligations.ValidRequestAlwaysEnds := by
  intro s j hbusy hdone herr hrst hhost hlatched hrow
  have hruns : RequestRuns j s := ⟨hbusy, hdone, herr, hrst, hhost, hlatched, hrow⟩
  refine ⟨?_, fun t ht htbusy => ?_⟩
  · obtain ⟨k, t, hk, hrun, hended⟩ := hruns.ends rfl
    exact ⟨k, t, hk, hrun, hended.busy, hended.done, hended.outcome⟩
  · obtain ⟨t', hstep, hcases⟩ := hruns.runs_or_ends_of_step
    obtain rfl : t' = t := Host.Outcome.next.inj (hstep.symm.trans ht)
    rcases hcases with ⟨-, hnext⟩ | hended
    · exact hnext
    · exact absurd htbusy (by simp [hended.busy])

end Sys2Proof.Machine
end
